-- ==== Sys2Proof/Word.lean ====
section
/-! DEFINITION. The words of the machine: bytes, the 32-bit part time, the 512-bit configuration image, and an instant. -/

namespace Sys2Proof

/-- One byte: a face link byte, a character of a display text, a byte of the configuration memory. -/
abbrev Byte := BitVec 8

/-- Part time: a 32-bit count of milliseconds that wraps (R172). -/
abbrev PartTime := BitVec 32

/-- The 64 bytes of the configuration image as one string of bits, byte 0 the most significant (chapter 11.2). -/
abbrev Image := BitVec 512

/-- A text of the display: the eight-bit codes of its characters, first character first (R161). -/
abbrev Text := List Byte

/-- A moment finer than part time: the millisecond and the units of 1/576 ms passed in it
(DESIGN CHOICE, log entry 1: a whole number of units makes every character time of R136 exact). -/
structure Instant where
  ms : PartTime
  sub : Nat
deriving DecidableEq, Repr

end Sys2Proof
end

