-- ==== Sys2Proof/Config.lean ====
section
/-! DEFINITION. The free values: constants without a body, for what the manual leaves open. -/

namespace Sys2Proof

/-- Which of several of the part's own events that are due together the part takes first, by the count of free
values used so far (log entry 3). -/
opaque Config.dueChoice : Nat → Nat

/-- How long the receiving blocks take an accepted frame: 0 to 5 ms in units of 1/576 ms
(R139 gives the bound and no value; log entry 4). -/
opaque Config.frameTakeUnits : Nat → Fin 2881

/-- Whether a remaining mass that shows as 0.0 and is not above 0 carries the plus sign
(R155 gives the signs of the others; log entry 18). -/
opaque Config.zeroRemainingPlus : Int → Bool

end Sys2Proof
end

