-- ==== Sys2Proof/Syntax.lean ====
section
/-! DEFINITION. The commands of the FT24: one constructor of Instr per row of spec/opcode_table.json, with its operands. -/

namespace Sys2Proof

/-- The six cab keys (R162). -/
inductive Key where
  | zero | void | next | material | ack | shift
deriving DecidableEq, Repr

/-- What brings a device reset about (R171): power-on, or RESET held low for a number of microseconds. -/
inductive ResetCause where
  | powerOn
  | lineLow (micros : Nat)
deriving DecidableEq, Repr

/-- One character as RXD carries it (R136): the level of the line just before it, and the levels of its ten
bit times, bit 0 the first (the start bit) and bit 9 the last (the stop bit). -/
structure LineCharacter where
  before : Bool
  levels : BitVec 10
deriving DecidableEq, Repr

/-- One command per row of spec/opcode_table.json. A timer's expiry that concerns one entry or one key names it;
an event that brings something from outside carries it. -/
inductive Instr where
  /-- DEVICE_RESET, R171. -/
  | deviceReset (cause : ResetCause)
  /-- RESET_RELEASE, R171. -/
  | resetRelease
  /-- PART_TIME_WRAP, R172. -/
  | partTimeWrap
  /-- CONFIG_STATUS_BYTE, R173: the status byte clocked in. -/
  | configStatusByte (status : Byte)
  /-- CONFIG_READ_COMPLETE, R173 and R174: the 64 bytes clocked in, the 64th with this event. -/
  | configReadComplete (image : Image)
  /-- READ_TIMER_EXPIRY, R173. -/
  | readTimerExpiry
  /-- SELF_TEST_TIMER_EXPIRY, R178. -/
  | selfTestTimerExpiry
  /-- JOIN_TIMER_EXPIRY, R179. -/
  | joinTimerExpiry
  /-- SCAN_TIMER_EXPIRY, R106. -/
  | scanTimerExpiry
  /-- WORD_READY, R108: the word on SCN_D0 to SCN_D15. -/
  | wordReady (word : BitVec 16)
  /-- BLOCK_END, R109. -/
  | blockEnd
  /-- SCAN_TIMEOUT, R110. -/
  | scanTimeout
  /-- DELAY_TIMER_EXPIRY, R68. -/
  | delayTimerExpiry
  /-- TARE_REQUEST_EXPIRY, R85. -/
  | tareRequestExpiry
  /-- TRUCK_AGING_EXPIRY, R9: the truck whose aging timer expires. -/
  | truckAgingExpiry (truck : Nat)
  /-- LOST_HOLD_END, R10: the truck whose lost hold ends. -/
  | lostHoldEnd (truck : Nat)
  /-- ROSTER_QUIET_EXPIRY, R51. -/
  | rosterQuietExpiry (loader : Nat)
  /-- ROSTER_LOST_EXPIRY, R52. -/
  | rosterLostExpiry (loader : Nat)
  /-- ROSTER_REMOVAL_EXPIRY, R53. -/
  | rosterRemovalExpiry (loader : Nat)
  /-- BEACON_TIMER_EXPIRY, R120. -/
  | beaconTimerExpiry
  /-- HOLD_OFF_EXPIRY, R129; csInFell: CS_IN has fallen since it last became active (R149, log entry 7). -/
  | holdOffExpiry (csInFell : Bool)
  /-- CARRIER_RISE, R128. -/
  | carrierRise
  /-- CARRIER_FALL, R127. -/
  | carrierFall
  /-- CARRIER_WATCH_EXPIRY, R132. -/
  | carrierWatchExpiry
  /-- CHARACTER_RECEIVED, R136 and R137. -/
  | characterReceived (character : LineCharacter)
  /-- ASSEMBLER_TAKES_BYTE, R142. -/
  | assemblerTakesByte
  /-- GAP_TIMEOUT, R144. -/
  | gapTimeout
  /-- FRAME_TAKEN_BY_BLOCKS, R139. -/
  | frameTakenByBlocks
  /-- CHARACTER_SENT, R148; csInFell as for HOLD_OFF_EXPIRY. -/
  | characterSent (csInFell : Bool)
  /-- CS_IN_ACTIVE, R149. -/
  | csInActive
  /-- STALL_TIMER_EXPIRY, R150. -/
  | stallTimerExpiry
  /-- ACCEPT, R159. -/
  | accept
  /-- ACCEPTANCE_TIMER_EXPIRY, R160. -/
  | acceptanceTimerExpiry
  /-- RETRY_PAUSE_EXPIRY, R160. -/
  | retryPauseExpiry
  /-- KEY_INPUT_CHANGE, R162: the key and the new level of its input (true for active). -/
  | keyInputChange (key : Key) (active : Bool)
  /-- KEY_DEBOUNCE_EXPIRY, R162. -/
  | keyDebounceExpiry (key : Key)
  /-- SHIFT_HOLD_EXPIRY, R165. -/
  | shiftHoldExpiry
deriving DecidableEq, Repr

end Sys2Proof
end

