-- ==== Sys2Proof/Machine/State.lean ====
section
/-! DEFINITION. The state of the FT24, block by block, as plain data, and its reset values. -/

namespace Sys2Proof.Machine

/-- No command of this model ends in a fault: the manual names none that stops the part (INVENTORY.md, Faults). -/
inductive Fault
deriving DecidableEq, Repr

/-- The reasons a command is refused. -/
inductive Refusal where
  /-- Raised by exec's arm of a command that has no meaning yet; safe. No arm raises it. -/
  | notModelled (mnemonic : String)
deriving DecidableEq, Repr

/-! ## Shared shapes -/

/-- A running timer: the part time it was started at and its run in ms. A stopped timer is an absent one. -/
structure Timer where
  start : PartTime
  run : Nat
deriving DecidableEq, Repr

/-- One value for each of the six keys. -/
structure PerKey (α : Type) where
  zero : α
  void : α
  next : α
  material : α
  ack : α
  shift : α
deriving DecidableEq, Repr

/-- The levels the outside drives on CS_IN, CD_IN (true for high, which is active) and on the six key inputs (true for
active, which is low). -/
structure Pins where
  csIn : Bool
  cdIn : Bool
  keys : PerKey Bool
deriving DecidableEq, Repr

/-! ## Start-up controller and the values in use (chapters 10 and 11) -/

/-- The station states of chapter 10. -/
inductive StationState where
  | reset | configRead | selfTest | listen | active | silent | halted
deriving DecidableEq, Repr

/-- Why the part is HALTED (R157, R181). -/
inductive HaltReason where
  | config | linktest
deriving DecidableEq, Repr

/-- Where the read of the configuration memory stands (R173). -/
inductive ConfigRead where
  | stopped | polling | reading
deriving DecidableEq, Repr

/-- What the check and the validation found (R174 to R177). -/
inductive ImageResult where
  | notRead
  | checkFailed
  | criticalFailed
  | valid (defaultsTaken : Bool)
deriving DecidableEq, Repr

/-- The start-up controller's own state; the station state stands in State. Its reset values are those of log entries
33 and 34. -/
structure Startup where
  haltReason : Option HaltReason
  read : ConfigRead
  readTimer : Option Timer
  selfTestTimer : Option Timer
  joinTimer : Option Timer
  image : Option Image
  result : ImageResult
  expected : Nat
  handed : Nat
deriving DecidableEq, Repr

/-- The three clock inputs (R172). -/
inductive ClockInput where
  | mhz3 | mhz7 | mhz14
deriving DecidableEq, Repr

/-- The four line rates (R136). -/
inductive LineRate where
  | baud9600 | baud19200 | baud38400 | baud57600
deriving DecidableEq, Repr

/-- The reweigh policies (R76). -/
inductive ReweighPolicy where
  | latest | first
deriving DecidableEq, Repr

/-- A channel's configured minimum and maximum, in the channel's units (R112). -/
structure Limits where
  low : Int
  high : Int
deriving DecidableEq, Repr

/-- One entry of the material table (R164, R183). -/
structure Material where
  name : Text
  density : Nat
deriving DecidableEq, Repr

/-- The values in use, handed to their blocks at the end of validation (R177). Periods and delays are in ms. -/
structure Settings where
  station : Nat
  clock : ClockInput
  rate : LineRate
  txdInverted : Bool
  rxdInverted : Bool
  scanPeriod : Nat
  beaconPeriod : Nat
  retakes : Nat
  policy : ReweighPolicy
  captureDelay : Nat
  minSamples : Nat
  pitchLimit : Nat
  boom : Limits
  tilt : Limits
  head : Limits
  rod : Limits
  pitch : Limits
  digHeight : Int
  carryTilt : Int
  dumpTilt : Int
  dumpHeight : Int
  windowStart : Int
  windowWidth : Int
  headArea : Nat
  rodArea : Nat
  zeroForce : Nat
  spanForce : Nat
  spanMass : Nat
  bucketVolume : Nat
  overloadMargin : Nat
  materials : List Material
deriving DecidableEq, Repr

/-! ## Scan port (chapter 6) -/

/-- OPEN while the request stands, CLOSING while the block end is awaited after a timeout. -/
inductive ScanCondition where
  | opened | closing
deriving DecidableEq, Repr

/-- The scan in flight (R107). -/
structure ScanInFlight where
  condition : ScanCondition
  requestedAt : PartTime
  wordCount : Nat
  words : List (BitVec 16)
deriving DecidableEq, Repr

/-- What the scan port holds (R104). -/
structure ScanPort where
  timer : Option Timer
  inFlight : Option ScanInFlight
  bad : Nat
  good : Nat
  fault : Bool
deriving DecidableEq, Repr

/-- Travel direction; none stands for an invalid status word (R113). -/
inductive Direction where
  | none | forward | neutral | reverse
deriving DecidableEq, Repr

/-- The values only a weighable scan carries (R118). -/
structure LoadReading where
  head : Int
  rod : Int
  pitch : Int
deriving DecidableEq, Repr

/-- A scan as it is handed on, by its class (R114, R118): weighable when the load reading is present. -/
inductive Scan where
  | notUsable
  | usable (boom tilt : Int) (direction : Direction) (brakeApplied : Bool) (load : Option LoadReading)
deriving DecidableEq, Repr

/-! ## Weigh unit (chapter 4) -/

/-- The weigh states (R60). -/
inductive WeighState where
  | idle | armed | delaying | capturing | held | blocked
deriving DecidableEq, Repr

/-- What a capture is for. -/
inductive Purpose where
  | weigh | tare
deriving DecidableEq, Repr

/-- Qualities of a held result and of a pass; none stands for NONE (R78). -/
inductive Quality where
  | good | retaken | short | tilted | unstable | none
deriving DecidableEq, Repr

/-- The mass (in 10 kg units) and quality of the last completed WEIGH capture. -/
structure HeldResult where
  mass : Option Nat
  quality : Quality
deriving DecidableEq, Repr

/-- What the weigh unit holds (R60). Weighing available is computed from the state (R61). -/
structure WeighUnit where
  state : WeighState
  purpose : Option Purpose
  previousBoom : Option Int
  highestBoom : Option Int
  delayTimer : Option Timer
  forceSum : Int
  accepted : Nat
  tilted : Nat
  retakes : Nat
  held : Option HeldResult
  zeroForce : Nat
  tareRequest : Option Timer
deriving DecidableEq, Repr

/-! ## Cycle tracker (chapter 5) -/

/-- The phases of the work cycle (R86). -/
inductive Phase where
  | empty | digging | loaded | dumping
deriving DecidableEq, Repr

/-- The events of a scan that reach the weigh unit (R89). -/
inductive PhaseEvent where
  | leavingEmpty | entryToLoaded | dumpEvent | leavingLoaded
deriving DecidableEq, Repr

/-- The load of a truck: its station number and its epoch. -/
structure Load where
  truck : Nat
  epoch : Nat
deriving DecidableEq, Repr

/-- One dumped bucket (R94). A pass without a load is a pile pass. -/
structure PassRecord where
  number : Nat
  shiftTime : Nat
  dumpedAt : PartTime
  mass : Option Nat
  quality : Quality
  fill : Option Nat
  material : Nat
  load : Option Load
  voided : Bool
deriving DecidableEq, Repr

/-- What the cycle tracker holds (R86); the pass list is oldest first. -/
structure CycleTracker where
  phase : Phase
  openDump : Bool
  passes : List PassRecord
  nextNumber : Nat
  shiftStart : PartTime
  cycles : Nat
  abandoned : Nat
deriving DecidableEq, Repr

/-! ## Truck table (chapter 1) -/

/-- Entry states of a truck (R3, R9). -/
inductive TruckState where
  | inbound | spottedHere | spottedAway | departing | lost
deriving DecidableEq, Repr

/-- One truck entry. -/
structure TruckEntry where
  truck : Nat
  epoch : Nat
  state : TruckState
  spottedAt : List Nat
  target : Nat
  onBoard : Option Nat
  lastHeard : PartTime
  lostSince : Option PartTime
  waitingSpot : Bool
  peerDropped : Bool
deriving DecidableEq, Repr

/-- The truck table, the spot queue (oldest first) and the pin (R1). -/
structure TruckTable where
  entries : List TruckEntry
  queue : List Nat
  pin : Option Nat
deriving DecidableEq, Repr

/-! ## Load tally (chapter 2) -/

/-- One contribution record (R23). -/
structure Contribution where
  contributor : Nat
  truck : Nat
  epoch : Nat
  revision : Nat
  passes : Nat
  unweighed : Nat
  mass : Nat
  own : Bool
deriving DecidableEq, Repr

/-- Why a load closed (R21). -/
inductive CloseReason where
  | newLoad | lost | evicted
deriving DecidableEq, Repr

/-- One entry of the closed-load log (R43). -/
structure ClosedLoad where
  truck : Nat
  epoch : Nat
  reason : CloseReason
  totalMass : Nat
  totalPasses : Nat
  unweighed : Nat
  ownPasses : Nat
  ownMass : Nat
  contributors : Nat
  target : Nat
  onBoard : Option Nat
  approximate : Bool
  closedAt : PartTime
deriving DecidableEq, Repr

/-- The tally's six shift totals (R46). -/
structure ShiftTotals where
  ownPasses : Nat
  ownMass : Nat
  unweighed : Nat
  pilePasses : Nat
  pileMass : Nat
  loadsClosed : Nat
deriving DecidableEq, Repr

/-- What the load tally holds; the log is oldest first. -/
structure LoadTally where
  records : List Contribution
  log : List ClosedLoad
  shift : ShiftTotals
deriving DecidableEq, Repr

/-! ## Loader roster (chapter 3) -/

/-- Liveness of a loader (R51, R52). -/
inductive Liveness where
  | live | quiet | lost
deriving DecidableEq, Repr

/-- One roster entry. receiving is absent until a beacon part is taken; some none is "none" (R48). -/
structure RosterEntry where
  loader : Nat
  state : Liveness
  lastHeard : PartTime
  lostSince : Option PartTime
  lastSequence : Option Byte
  weighing : Option Bool
  receiving : Option (Option Nat)
deriving DecidableEq, Repr

/-! ## Channel access (chapter 7) -/

/-- One entry slot of a loader beacon or a pass notice: the values of an own record (R122, R124). -/
structure Slot where
  truck : Nat
  epoch : Nat
  revision : Nat
  passes : Nat
  unweighed : Nat
  mass : Nat
deriving DecidableEq, Repr

/-- A queued pass notice and the header sequence it will carry (R124). -/
structure Notice where
  slot : Slot
  sequence : Byte
deriving DecidableEq, Repr

/-- A queued beacon part (R122): receiving is 0 for none. -/
structure BeaconPart where
  sequence : Byte
  part : Nat
  parts : Nat
  weighing : Bool
  receiving : Nat
  slots : List Slot
deriving DecidableEq, Repr

/-- What channel access holds (R119). The transmit queue is the notices followed by the parts (R126). -/
structure ChannelAccess where
  notices : List Notice
  parts : List BeaconPart
  beaconTimer : Option Timer
  beaconSequence : Byte
  holdOff : Option Timer
  frameOnLine : Bool
  carrierWatch : Option Timer
  carrierStuck : Bool
  sendStall : Bool
deriving DecidableEq, Repr

/-! ## Link port (chapter 8) -/

/-- One entry of the receive FIFO with its three marks (R137). -/
structure RxByte where
  byte : Byte
  gap : Bool
  loss : Bool
  ownSend : Bool
deriving DecidableEq, Repr

/-- The assembler's states (R142). -/
inductive AssemblerState where
  | hunting | inFrame | escaped
deriving DecidableEq, Repr

/-- The transmitter's states (R148). -/
inductive TransmitterState where
  | idle | sending | held
deriving DecidableEq, Repr

/-- The frame on the line: its stuffed characters and how many have been sent whole (R148). -/
structure OnLine where
  characters : List Byte
  sent : Nat
deriving DecidableEq, Repr

/-- What the link port holds (R135). awaitRest: a framing error has been taken and the line has not yet been seen at
rest (R136). busySince and busyUnits: when the blocks began to take the accepted frame, and for how long (log entry 4).
charStart: when the character being sent started. -/
structure LinkPort where
  receiveEnable : Bool
  fifo : List RxByte
  lossPending : Bool
  lastArrival : Option Instant
  awaitRest : Bool
  rdyOut : Bool
  assembler : AssemblerState
  buffer : List Byte
  broken : Bool
  busy : Bool
  busySince : Option Instant
  busyUnits : Nat
  transmitter : TransmitterState
  onLine : Option OnLine
  charStart : Option Instant
  stallTimer : Option Timer
  stallReported : Bool
  loopback : Bool
deriving DecidableEq, Repr

/-! ## Cab panel unit (chapter 9) -/

/-- A field's current text and whether the field is in the pending field set. -/
structure FieldCell where
  text : Text
  pending : Bool
deriving DecidableEq, Repr

/-- The transfer in flight (R158): the field, the text as sent, the acceptance timer. -/
structure Transfer where
  field : Nat
  text : Text
  timer : Timer
deriving DecidableEq, Repr

/-- A key's state (R162). -/
inductive KeyState where
  | up
  | down (ignored : Bool)
deriving DecidableEq, Repr

/-- The five state alerts (chapter 9.5). -/
inductive StateAlert where
  | conflict | sensor | channel | overload | config
deriving DecidableEq, Repr

/-- The three event alerts (chapter 9.5). -/
inductive EventAlert where
  | table | unweighed | tare
deriving DecidableEq, Repr

/-- An alert of either kind. -/
inductive Alert where
  | state (a : StateAlert)
  | event (a : EventAlert)
deriving DecidableEq, Repr

/-- A state alert's latch, acknowledged mark and condition copy (R167). -/
structure StateLatch where
  latched : Bool
  acknowledged : Bool
  condition : Bool
deriving DecidableEq, Repr

/-- An event alert's latch and raised-in-freeze mark (R166). -/
structure EventLatch where
  latched : Bool
  raisedInFreeze : Bool
deriving DecidableEq, Repr

/-- The alert frozen at an ACK press (R169). -/
inductive Frozen where
  | noneShown
  | shown (a : Alert)
deriving DecidableEq, Repr

/-- The eight alerts' latches and the freeze. -/
structure Alerts where
  conflict : StateLatch
  sensor : StateLatch
  channel : StateLatch
  overload : StateLatch
  config : StateLatch
  table : EventLatch
  unweighed : EventLatch
  tare : EventLatch
  freeze : Option Frozen
deriving DecidableEq, Repr

/-- What the cab panel unit holds (R154). fields has 16 cells, in field order. -/
structure CabPanel where
  fields : List FieldCell
  transfer : Option Transfer
  displayFault : Bool
  retryPause : Option Timer
  keys : PerKey KeyState
  debounce : PerKey (Option Timer)
  shiftHold : Option Timer
  material : Nat
  alerts : Alerts
deriving DecidableEq, Repr

/-! ## The whole machine -/

/-- The state of the FT24: the queue of waiting commands, the input pins, the station state, the time base, the eleven
blocks, and the count of free values used so far. -/
structure State where
  pending : List Instr
  pins : Pins
  station : StationState
  partTime : PartTime
  subTime : Nat
  startup : Startup
  settings : Settings
  scan : ScanPort
  cycle : CycleTracker
  weigh : WeighUnit
  trucks : TruckTable
  tally : LoadTally
  roster : List RosterEntry
  channel : ChannelAccess
  link : LinkPort
  panel : CabPanel
  free : Nat
deriving DecidableEq, Repr

/-! ## Reset values -/

/-- The same value for every key. -/
def PerKey.all {α : Type} (a : α) : PerKey α := ⟨a, a, a, a, a, a⟩

/-- The values in use before validation (R135, R172; the others DESIGN CHOICE, log entry 11). -/
def Settings.reset : Settings where
  station := 0
  clock := .mhz3
  rate := .baud9600
  txdInverted := false
  rxdInverted := false
  scanPeriod := 20
  beaconPeriod := 1000
  retakes := 1
  policy := .latest
  captureDelay := 100
  minSamples := 8
  pitchLimit := 60
  boom := ⟨-400, 600⟩
  tilt := ⟨-600, 600⟩
  head := ⟨0, 5000⟩
  rod := ⟨0, 5000⟩
  pitch := ⟨-300, 300⟩
  digHeight := 50
  carryTilt := 150
  dumpTilt := -50
  dumpHeight := 150
  windowStart := 0
  windowWidth := 0
  headArea := 0
  rodArea := 0
  zeroForce := 0
  spanForce := 0
  spanMass := 0
  bucketVolume := 500
  overloadMargin := 0
  materials := []

/-- Eight-bit codes of a list of characters (R161). -/
def textOf (cs : List Char) : Text := cs.map fun c => BitVec.ofNat 8 c.toNat

/-- A text padded with spaces on the right to 8 characters (R155). -/
def padText (t : Text) : Text := (t ++ List.replicate 8 (0x20 : Byte)).take 8

/-- The reset texts of R155, in field order. -/
def resetTexts : List Text :=
  [textOf ['S', 'T', 'A', 'R', 'T', 'I', 'N', 'G'], [], [], [], [],
   textOf ['N', 'O', ' ', 'T', 'R', 'U', 'C', 'K'],
   textOf ['-', '-', '-'], textOf ['-', '-', '-'], textOf ['-', '-', '-'],
   textOf ['-', '-', '-'], textOf ['-', '-'], textOf ['0', '/', '0'],
   textOf ['0', '.', '0'], textOf ['-', '-', '-'], [], textOf ['Q', ' ', '0']]

/-- The cab panel unit after device reset (R154, R155). -/
def CabPanel.reset : CabPanel where
  fields := resetTexts.map fun t => ⟨padText t, true⟩
  transfer := none
  displayFault := false
  retryPause := none
  keys := .all .up
  debounce := .all none
  shiftHold := none
  material := 0
  alerts :=
    let clear : StateLatch := ⟨false, false, false⟩
    let quiet : EventLatch := ⟨false, false⟩
    ⟨clear, clear, clear, clear, clear, quiet, quiet, quiet, none⟩

/-- The link port after device reset (R135; no character start, no wait for the line to rest: DEDUCED, log entry 34; no
span of the blocks' taking: log entry 4). -/
def LinkPort.reset : LinkPort where
  receiveEnable := false
  fifo := []
  lossPending := false
  lastArrival := none
  awaitRest := false
  rdyOut := false
  assembler := .hunting
  buffer := []
  broken := false
  busy := false
  busySince := none
  busyUnits := 0
  transmitter := .idle
  onLine := none
  charStart := none
  stallTimer := none
  stallReported := false
  loopback := false

/-- The weigh unit after device reset (R60; the zero force DESIGN CHOICE, log entry 12). -/
def WeighUnit.reset : WeighUnit where
  state := .idle
  purpose := none
  previousBoom := none
  highestBoom := none
  delayTimer := none
  forceSum := 0
  accepted := 0
  tilted := 0
  retakes := 0
  held := none
  zeroForce := 0
  tareRequest := none

/-- The machine right after power-on: RESET held, every block at its reset values (R171), nothing queued. The input
levels are a DESIGN CHOICE (log entry 6), and so are the count of free values (log entry 23) and, of the start-up
controller, the held image, the validation result and the two test frame numbers (log entry 33). That nothing of the
start-up runs at reset, and no character is being sent or waited out on the line, is DEDUCED (log entry 34). -/
def State.reset : State where
  pending := []
  pins := ⟨true, false, .all false⟩
  station := .reset
  partTime := 0
  subTime := 0
  startup := ⟨none, .stopped, none, none, none, none, .notRead, 0, 0⟩
  settings := .reset
  scan := ⟨none, none, 0, 0, false⟩
  cycle := ⟨.empty, false, [], 1, 0, 0, 0⟩
  weigh := .reset
  trucks := ⟨[], [], none⟩
  tally := ⟨[], [], ⟨0, 0, 0, 0, 0, 0⟩⟩
  roster := []
  channel := ⟨[], [], none, 0, none, false, none, false, false⟩
  link := .reset
  panel := .reset
  free := 0

end Sys2Proof.Machine
end

