-- ==== Sys2Proof/Machine/Ops.lean ====
section
/-! DEFINITION. The shared operations: time and timers, per-key access, table look-up and update, alert latches, the
panel transfer. -/

namespace Sys2Proof.Machine

/-! ## Outcomes -/

/-- A command that is taken: the next state. -/
abbrev Taken (s : State) : Host.Outcome State Fault Refusal := .next s

/-! ## Time (R172) -/

/-- The milliseconds from one part time to a later one, modulo 2^32 (R172). -/
def elapsed (now since : PartTime) : Nat := (now - since).toNat

/-- A timer has expired when its run has passed since its start; a stopped timer has not (R172, log entry 2). -/
def timerDue (now : PartTime) : Option Timer → Bool
  | none => false
  | some t => decide (t.run ≤ elapsed now t.start)

/-- The period timers' next run starts where the last one ended, whenever the expiry is taken (R105, R120). -/
def nextPeriod : Option Timer → Option Timer
  | none => none
  | some t => some ⟨t.start + BitVec.ofNat 32 t.run, t.run⟩

/-- The present instant. -/
def State.now (s : State) : Instant := ⟨s.partTime, s.subTime⟩

/-- A timer started now. -/
def State.timer (s : State) (run : Nat) : Option Timer := some ⟨s.partTime, run⟩

/-- Units of 1/576 ms in a millisecond (log entry 1). -/
def unitsPerMs : Nat := 576

/-- Units of 1/576 ms from one instant to a later one. -/
def unitsBetween (later earlier : Instant) : Nat :=
  elapsed later.ms earlier.ms * unitsPerMs + later.sub - earlier.sub

/-! ## Station states -/

/-- LISTEN, ACTIVE and SILENT: the states in which frames are dispatched, scans taken and keys dispatched. -/
def StationState.onFace : StationState → Bool
  | .listen => true
  | .active => true
  | .silent => true
  | .reset => false
  | .configRead => false
  | .selfTest => false
  | .halted => false

/-! ## Keys -/

/-- The value of one key. -/
def PerKey.get {α : Type} (p : PerKey α) : Key → α
  | .zero => p.zero
  | .void => p.void
  | .next => p.next
  | .material => p.material
  | .ack => p.ack
  | .shift => p.shift

/-- One key's value replaced. -/
def PerKey.set {α : Type} (p : PerKey α) (k : Key) (a : α) : PerKey α :=
  match k with
  | .zero => { p with zero := a }
  | .void => { p with void := a }
  | .next => { p with next := a }
  | .material => { p with material := a }
  | .ack => { p with ack := a }
  | .shift => { p with shift := a }

/-- The six keys. -/
def allKeys : List Key := [.zero, .void, .next, .material, .ack, .shift]

/-- The key is DOWN, ignored or not. -/
def KeyState.isDown : KeyState → Bool
  | .up => false
  | .down _ => true

/-! ## Table look-up and update -/

/-- The entry of a truck. -/
def TruckTable.find (t : TruckTable) (truck : Nat) : Option TruckEntry :=
  t.entries.find? fun e => e.truck == truck

/-- A truck's entry replaced in its place. -/
def TruckTable.update (t : TruckTable) (truck : Nat) (f : TruckEntry → TruckEntry) : TruckTable :=
  { t with entries := t.entries.map fun e => if e.truck = truck then f e else e }

/-- A truck's entry removed and its place freed. -/
def TruckTable.remove (t : TruckTable) (truck : Nat) : TruckTable :=
  { t with entries := t.entries.filter fun e => e.truck != truck }

/-- The entry of a loader in the roster. -/
def rosterFind (r : List RosterEntry) (loader : Nat) : Option RosterEntry :=
  r.find? fun e => e.loader == loader

/-- A loader's entry replaced in its place. -/
def rosterUpdate (r : List RosterEntry) (loader : Nat) (f : RosterEntry → RosterEntry) : List RosterEntry :=
  r.map fun e => if e.loader = loader then f e else e

/-- A loader's entry removed. -/
def rosterRemove (r : List RosterEntry) (loader : Nat) : List RosterEntry :=
  r.filter fun e => e.loader != loader

/-- The key of a contribution record (R23). -/
def Contribution.hasKey (r : Contribution) (contributor truck epoch : Nat) : Bool :=
  r.contributor == contributor && r.truck == truck && r.epoch == epoch

/-- The record with a key. -/
def findRecord (rs : List Contribution) (contributor truck epoch : Nat) : Option Contribution :=
  rs.find? fun r => r.hasKey contributor truck epoch

/-- The record with a key replaced in its place. -/
def updateRecord (rs : List Contribution) (contributor truck epoch : Nat) (f : Contribution → Contribution) :
    List Contribution :=
  rs.map fun r => if r.hasKey contributor truck epoch then f r else r

/-- The part times ago of the entry chosen by R8 and R54: the greatest elapsed time since last heard, and the lower
number among equals. Each candidate is its number and its last heard time. -/
def oldestOf (now : PartTime) : List (Nat × PartTime) → Option Nat
  | [] => none
  | (n, heard) :: rest =>
    match rest.foldl (fun (best : Nat × PartTime) c =>
        if elapsed now c.2 > elapsed now best.2 ∨ (elapsed now c.2 = elapsed now best.2 ∧ c.1 < best.1) then c
        else best) (n, heard) with
    | (chosen, _) => some chosen

/-! ## Alerts (chapter 9.5) -/

/-- The latch of a state alert. -/
def Alerts.stateLatch (a : Alerts) : StateAlert → StateLatch
  | .conflict => a.conflict
  | .sensor => a.sensor
  | .channel => a.channel
  | .overload => a.overload
  | .config => a.config

/-- A state alert's latch replaced. -/
def Alerts.setState (a : Alerts) (k : StateAlert) (l : StateLatch) : Alerts :=
  match k with
  | .conflict => { a with conflict := l }
  | .sensor => { a with sensor := l }
  | .channel => { a with channel := l }
  | .overload => { a with overload := l }
  | .config => { a with config := l }

/-- The latch of an event alert. -/
def Alerts.eventLatch (a : Alerts) : EventAlert → EventLatch
  | .table => a.table
  | .unweighed => a.unweighed
  | .tare => a.tare

/-- An event alert's latch replaced. -/
def Alerts.setEvent (a : Alerts) (k : EventAlert) (l : EventLatch) : Alerts :=
  match k with
  | .table => { a with table := l }
  | .unweighed => { a with unweighed := l }
  | .tare => { a with tare := l }

/-- One report of a state alert's condition (R167). -/
def StateLatch.report (l : StateLatch) (holds : Bool) : StateLatch :=
  if holds = l.condition then l
  else if holds then { latched := true, acknowledged := l.latched && l.acknowledged, condition := true }
  else if l.latched && l.acknowledged then ⟨false, false, false⟩
  else { l with condition := false }

/-- A condition handed to the cab panel unit: a change of it is a report (R117, R133, R41, R167). -/
def CabPanel.report (p : CabPanel) (k : StateAlert) (holds : Bool) : CabPanel :=
  { p with alerts := p.alerts.setState k ((p.alerts.stateLatch k).report holds) }

/-- One raise of an event alert's latch; frozen says that the alert is the frozen one of an ACK hold (R166). -/
def EventLatch.raise (l : EventLatch) (frozen : Bool) : EventLatch :=
  { latched := true, raisedInFreeze := l.raisedInFreeze || frozen }

/-- One raise of an event alert (R166). -/
def CabPanel.raise (p : CabPanel) (k : EventAlert) : CabPanel :=
  let frozen := p.alerts.freeze == some (.shown (.event k))
  { p with alerts := p.alerts.setEvent k ((p.alerts.eventLatch k).raise frozen) }

/-- A condition reported at the state. -/
def State.report (s : State) (k : StateAlert) (holds : Bool) : State := { s with panel := s.panel.report k holds }

/-- An event alert raised at the state. -/
def State.raise (s : State) (k : EventAlert) : State := { s with panel := s.panel.raise k }

/-! ## Panel transfer (R158) -/

/-- The lowest-numbered pending field from number i on: its number, its text, and the cells with it taken out of the
pending set. -/
def takeLowest : Nat → List FieldCell → Option (Nat × Text × List FieldCell)
  | _, [] => none
  | i, c :: cs =>
    if c.pending then some (i, c.text, { c with pending := false } :: cs)
    else
      match takeLowest (i + 1) cs with
      | none => none
      | some (j, t, cs') => some (j, t, c :: cs')

/-- A transfer starts when none is in flight, no retry pause runs and a field is pending (R158). -/
def CabPanel.startTransfer (p : CabPanel) (now : PartTime) : CabPanel :=
  if p.transfer.isSome || p.retryPause.isSome then p
  else
    match takeLowest 0 p.fields with
    | none => p
    | some (i, t, cs) => { p with fields := cs, transfer := some ⟨i, t, ⟨now, 50⟩⟩ }

/-- Panel transfers run in every state but RESET (R154). -/
def State.startTransfer (s : State) : State :=
  if s.station = .reset then s else { s with panel := s.panel.startTransfer s.partTime }

end Sys2Proof.Machine
end

