-- ==== Sys2Proof/WellFormed.lean ====
section
/-! DEFINITION. Which commands are well formed: a station or truck named by a command is from 1 to 60. -/

namespace Sys2Proof

/-- A station number of the face: 1 to 60 (spec/00_scope.md, Terms). -/
def isStation (n : Nat) : Bool := decide (1 ≤ n ∧ n ≤ 60)

/-- The check of one command. The other operands take every value of their type. -/
def WellFormed : Instr → Bool
  | .truckAgingExpiry truck => isStation truck
  | .lostHoldEnd truck => isStation truck
  | .rosterQuietExpiry loader => isStation loader
  | .rosterLostExpiry loader => isStation loader
  | .rosterRemovalExpiry loader => isStation loader
  | .deviceReset _ => true
  | .resetRelease => true
  | .partTimeWrap => true
  | .configStatusByte _ => true
  | .configReadComplete _ => true
  | .readTimerExpiry => true
  | .selfTestTimerExpiry => true
  | .joinTimerExpiry => true
  | .scanTimerExpiry => true
  | .wordReady _ => true
  | .blockEnd => true
  | .scanTimeout => true
  | .delayTimerExpiry => true
  | .tareRequestExpiry => true
  | .beaconTimerExpiry => true
  | .holdOffExpiry _ => true
  | .carrierRise => true
  | .carrierFall => true
  | .carrierWatchExpiry => true
  | .characterReceived _ => true
  | .assemblerTakesByte => true
  | .gapTimeout => true
  | .frameTakenByBlocks => true
  | .characterSent _ => true
  | .csInActive => true
  | .stallTimerExpiry => true
  | .accept => true
  | .acceptanceTimerExpiry => true
  | .retryPauseExpiry => true
  | .keyInputChange _ _ => true
  | .keyDebounceExpiry _ => true
  | .shiftHoldExpiry => true

end Sys2Proof
end

