-- ==== Sys2Proof/Machine/Operands.lean ====
section
/-! DEFINITION. The formats that enter and leave the part: line characters, the check, stuffing, the frame layouts, the
scan words and the bit string of the configuration image (chapters 6, 8 and 11). -/

namespace Sys2Proof.Machine

/-! ## Line characters (R136) -/

/-- What the receiver makes of the levels of one character. -/
structure DecodedCharacter where
  /-- the line was at its rest level before the character -/
  restBefore : Bool
  /-- the first bit time is a start bit -/
  startBit : Bool
  /-- the stop bit is at the stop level -/
  stopBit : Bool
  byte : Byte
deriving DecidableEq, Repr

/-- Levels read from RXD are inverted when the option is set; then low is the start level, high the rest and stop
level, and the eight data bits come least significant first (R136). -/
def decodeCharacter (inverted : Bool) (c : LineCharacter) : DecodedCharacter :=
  let levels := if inverted then ~~~c.levels else c.levels
  { restBefore := c.before != inverted
    startBit := !levels.getLsbD 0
    stopBit := levels.getLsbD 9
    byte := levels.extractLsb' 1 8 }

/-- The ten levels the transmitter drives for one byte, bit 0 the first (R136). -/
def encodeCharacter (inverted : Bool) (b : Byte) : BitVec 10 :=
  let levels : BitVec 10 := 1#1 ++ b ++ 0#1
  if inverted then ~~~levels else levels

/-- Ten bit times in units of 1/576 ms at each rate (R136, log entry 1). -/
def LineRate.characterUnits : LineRate → Nat
  | .baud9600 => 600
  | .baud19200 => 300
  | .baud38400 => 150
  | .baud57600 => 100

/-! ## The check (R141) -/

/-- One bit through the register: polynomial x^16 + x^12 + x^5 + 1, most significant bit first. -/
def crcShift (r : BitVec 16) : BitVec 16 := if r.msb then (r <<< 1) ^^^ 0x1021#16 else r <<< 1

/-- One byte taken into the register. -/
def crcByte (r : BitVec 16) (b : Byte) : BitVec 16 :=
  Nat.repeat crcShift 8 (r ^^^ (b.setWidth 16 <<< 8))

/-- The check of a list of bytes: the register starts at 0xFFFF and is not changed at the end. -/
def crc16 (bytes : List Byte) : BitVec 16 := bytes.foldl crcByte 0xFFFF#16

/-- The two check bytes, high byte first. -/
def checkBytes (bytes : List Byte) : List Byte :=
  [(crc16 bytes).extractLsb' 8 8, (crc16 bytes).extractLsb' 0 8]

/-! ## Stuffing (R140) -/

/-- The start, end and escape characters. -/
def startCharacter : Byte := 0xF1
def endCharacter : Byte := 0xF2
def escapeCharacter : Byte := 0xF0

/-- One frame byte as it is sent. -/
def stuffByte (b : Byte) : List Byte :=
  if b = escapeCharacter ∨ b = startCharacter ∨ b = endCharacter then [escapeCharacter, b ^^^ 0x10] else [b]

/-- The characters of a frame's bytes, without the start and end characters. -/
def stuff (bytes : List Byte) : List Byte := bytes.flatMap stuffByte

/-- The characters on the line of a frame with this header and payload (R140, R148). -/
def lineCharacters (body : List Byte) : List Byte :=
  startCharacter :: (stuff (body ++ checkBytes body) ++ [endCharacter])

/-! ## Frame layouts (chapter 11.1) -/

/-- A number as one unsigned byte, and as two bytes, high byte first. -/
def byteOf (n : Nat) : Byte := BitVec.ofNat 8 n
def bytesOf16 (n : Nat) : List Byte := [byteOf (n / 256), byteOf n]

/-- The byte and the two-byte field at an offset of a frame's bytes. -/
def byteAt (f : List Byte) (i : Nat) : Nat := (f.getD i 0).toNat
def wordAt (f : List Byte) (i : Nat) : Nat := byteAt f i * 256 + byteAt f (i + 1)

/-- The kinds of a frame. -/
def kindTB : Nat := 1
def kindLB : Nat := 2
def kindPN : Nat := 3

/-- The payload length of a kind; a kind outside 1 to 3 has none (R146). -/
def payloadLength : Nat → Option Nat
  | 1 => some 32
  | 2 => some 46
  | 3 => some 8
  | _ => none

/-- A six-byte header: version 1, kind, sender station, sender kind, sequence, payload length. -/
def header (kind station senderKind : Nat) (sequence : Byte) (length : Nat) : List Byte :=
  [1, byteOf kind, byteOf station, byteOf senderKind, sequence, byteOf length]

/-- An entry slot as its seven bytes. -/
def Slot.bytes (e : Slot) : List Byte :=
  [byteOf e.truck, byteOf e.epoch, byteOf e.revision, byteOf e.passes, byteOf e.unweighed] ++ bytesOf16 e.mass

/-- A padding slot: every field 0 (R122, R182). -/
def Slot.padding : Slot := ⟨0, 0, 0, 0, 0, 0⟩

/-- A pass notice's header and payload; the reserved byte is 0 (R124, R182). -/
def Notice.frame (station : Nat) (n : Notice) : List Byte :=
  header kindPN station 1 n.sequence 8 ++ n.slot.bytes ++ [0]

/-- A beacon part's header and payload; the reserved bits are 0 (R122, R182). -/
def BeaconPart.frame (station : Nat) (p : BeaconPart) : List Byte :=
  header kindLB station 1 p.sequence 46 ++
    [if p.weighing then 1 else 0, byteOf p.receiving, byteOf p.part, byteOf p.parts] ++ p.slots.flatMap Slot.bytes

/-- The header fields the receiving blocks read. -/
def frameKind (f : List Byte) : Nat := byteAt f 1
def frameSender (f : List Byte) : Nat := byteAt f 2
def frameSenderKind (f : List Byte) : Nat := byteAt f 3
def frameSequence (f : List Byte) : Byte := f.getD 4 0

/-- The entry slot that starts at a payload offset. -/
def slotAt (f : List Byte) (offset : Nat) : Slot :=
  let i := 6 + offset
  ⟨byteAt f i, byteAt f (i + 1), byteAt f (i + 2), byteAt f (i + 3), byteAt f (i + 4), wordAt f (i + 5)⟩

/-- A number read as a station or as none (R3, R48). -/
def readStation (n : Nat) : Option Nat := if isStation n then some n else none

/-- One echo slot (chapter 11.1). -/
structure Echo where
  contributor : Nat
  revision : Nat
  passes : Nat
  unweighed : Nat
  mass : Nat
deriving DecidableEq, Repr

/-- What the truck table reads from a truck beacon (R2). code is the two bits of the truck state. -/
structure TruckBeacon where
  truck : Nat
  senderKind : Nat
  code : Nat
  epoch : Nat
  spottedAt : List Nat
  target : Nat
  onBoard : Option Nat
  echoes : List Echo
deriving DecidableEq, Repr

/-- The spotted-at list of two slots: empty slots, numbers outside 1..60 and a repetition contribute nothing (R3). -/
def spottedAtList (a b : Nat) : List Nat :=
  (readStation a).toList ++ (if b = a then [] else (readStation b).toList)

/-- The echo slot that starts at a payload offset. -/
def echoAt (f : List Byte) (offset : Nat) : Echo :=
  let i := 6 + offset
  ⟨byteAt f i, byteAt f (i + 1), byteAt f (i + 2), byteAt f (i + 3), wordAt f (i + 4)⟩

/-- A truck beacon read by the layout of chapter 11.1; reserved bits are not read (R182). -/
def readTruckBeacon (f : List Byte) : TruckBeacon :=
  let flags := byteAt f 6
  { truck := frameSender f
    senderKind := frameSenderKind f
    code := flags % 4
    epoch := byteAt f 7
    spottedAt := spottedAtList (byteAt f 8) (byteAt f 9)
    target := wordAt f 10
    onBoard := if flags / 128 = 1 then some (wordAt f 12) else none
    echoes := [echoAt f 8, echoAt f 14, echoAt f 20, echoAt f 26] }

/-- What the roster reads from a loader beacon part (R48). -/
def partWeighing (f : List Byte) : Bool := byteAt f 6 % 2 = 1
def partReceiving (f : List Byte) : Option Nat := readStation (byteAt f 7)

/-- The six entry slots of a loader beacon part, in slot order. -/
def partSlots (f : List Byte) : List Slot := [4, 11, 18, 25, 32, 39].map (slotAt f)

/-- The payload of a test frame: 0xF0, 0xF1, 0xF2, and from position 3 on the position itself (R178). -/
def testPayload (length : Nat) : List Byte :=
  (List.range length).map fun p => if p < 3 then byteOf (0xF0 + p) else byteOf p

/-- Header and payload of test frames 1 (PN), 2 (TB) and 3 (LB), each with sequence 0xF2 (R178). -/
def testFrame (station : Nat) : Nat → List Byte
  | 1 => header kindPN station 1 0xF2 8 ++ testPayload 8
  | 2 => header kindTB station 2 0xF2 32 ++ testPayload 32
  | 3 => header kindLB station 1 0xF2 46 ++ testPayload 46
  | _ => []

/-! ## Scan words (chapter 6.4) -/

/-- A value lies from the minimum to the maximum, both included (R112). -/
def Limits.admits (l : Limits) (v : Int) : Bool := decide (l.low ≤ v ∧ v ≤ l.high)

/-- The status word: a direction code of 1, 2 or 3 with bits 15 to 3 all 0 is valid; anything else is handed on as
direction none and brake applied (R113). -/
def readStatus (w : BitVec 16) : Direction × Bool :=
  if w.extractLsb' 3 13 = 0 then
    match (w.extractLsb' 0 2).toNat with
    | 1 => (.forward, w.getLsbD 2)
    | 2 => (.neutral, w.getLsbD 2)
    | 3 => (.reverse, w.getLsbD 2)
    | _ => (.none, true)
  else (.none, true)

/-- The six words of a GOOD scan validated channel by channel and classed (R112, R113, R114). -/
def readScan (c : Settings) (words : List (BitVec 16)) : Scan :=
  let word := fun i => words.getD i 0
  let boom := (word 0).toInt
  let tilt := (word 1).toInt
  let head : Int := (word 2).toNat
  let rod : Int := (word 3).toNat
  let pitch := (word 4).toInt
  let status := readStatus (word 5)
  if c.boom.admits boom && c.tilt.admits tilt then
    .usable boom tilt status.1 status.2
      (if c.head.admits head && c.rod.admits rod && c.pitch.admits pitch then some ⟨head, rod, pitch⟩ else none)
  else .notUsable

/-! ## The configuration image (chapter 11.2) -/

/-- Byte i of the image. -/
def imageByte (m : Image) (i : Nat) : Byte := m.extractLsb' (504 - 8 * i) 8

/-- Bytes 0 to 61, which the check covers (R174). -/
def imageBody (m : Image) : List Byte := (List.range 62).map (imageByte m)

/-- The check of R174: bytes 62 and 63, byte 62 high. -/
def imageCheckAgrees (m : Image) : Bool := crc16 (imageBody m) == imageByte m 62 ++ imageByte m 63

/-- The field of a width whose first bit is numbered from the most significant bit of byte 0 (chapter 11.2). -/
def imageField (m : Image) (first width : Nat) : Nat := (m.extractLsb' (512 - first - width) width).toNat

/-- A field read in two's complement of its own width. -/
def imageSigned (m : Image) (first width : Nat) : Int := (m.extractLsb' (512 - first - width) width).toInt

end Sys2Proof.Machine
end

