-- ==== Sys2Proof/Machine/Flags.lean ====
section
/-! DEFINITION. What is computed at each reading and never stored: receiving truck, totals, approximate mark, overload,
rank, partner, the weigh arithmetic, and when each of the part's own events is due. -/

namespace Sys2Proof.Machine

/-! ## Receiving truck and partner -/

/-- The pinned truck, else the head of the spot queue, else none (R19). -/
def TruckTable.receiving (t : TruckTable) : Option Nat := t.pin.or t.queue.head?

/-- The receiving truck's entry. -/
def TruckTable.receivingEntry (t : TruckTable) : Option TruckEntry :=
  match t.receiving with
  | none => none
  | some n => t.find n

/-- The load the next pass is credited to: the receiving truck and its entry's current epoch, or none (R19). -/
def TruckTable.receivingLoad (t : TruckTable) : Option Load :=
  match t.receivingEntry with
  | none => none
  | some e => some ⟨e.truck, e.epoch⟩

/-- The queue member after the receiving truck, wrapping from the tail to the head (R17). -/
def TruckTable.following (t : TruckTable) : Option Nat :=
  match t.receiving with
  | none => none
  | some n =>
    match (t.queue.dropWhile (· != n)).drop 1 with
    | next :: _ => some next
    | [] => t.queue.head?

/-- The other loader in the receiving truck's spotted-at list, or none (R56). -/
def State.partner (s : State) : Option Nat :=
  match s.trucks.receivingEntry with
  | none => none
  | some e => e.spottedAt.find? (· != s.settings.station)

/-- The number of LIVE roster entries with a lower station number (R55). A roster of 12 such entries gives 12, although
R55 has the rank range from 0 to 11: the count is taken as it is (DESIGN CHOICE, log entry 31). -/
def State.rank (s : State) : Nat :=
  s.roster.countP fun e => decide (e.state = .live ∧ e.loader < s.settings.station)

/-! ## Totals (R38 to R41) -/

/-- The records of one load. -/
def LoadTally.loadRecords (t : LoadTally) (truck epoch : Nat) : List Contribution :=
  t.records.filter fun r => r.truck == truck && r.epoch == epoch

def totalMass (rs : List Contribution) : Nat := (rs.map (·.mass)).sum
def totalPasses (rs : List Contribution) : Nat := (rs.map (·.passes)).sum
def totalUnweighed (rs : List Contribution) : Nat := (rs.map (·.unweighed)).sum

/-- The own record's passes and mass, or 0 when there is none (R38). -/
def ownPasses (rs : List Contribution) : Nat := ((rs.find? (·.own)).map (·.passes)).getD 0
def ownMass (rs : List Contribution) : Nat := ((rs.find? (·.own)).map (·.mass)).getD 0

/-- The number of own records, and of peer records (R23). -/
def LoadTally.ownCount (t : LoadTally) : Nat := t.records.countP (·.own)
def LoadTally.peerCount (t : LoadTally) : Nat := t.records.countP (!·.own)

/-- Weighing available is no exactly while the unit is BLOCKED (R61). -/
def WeighUnit.available (w : WeighUnit) : Bool := w.state != .blocked

/-- The roster's answer for a peer contributor: it has an entry whose weighing available is present and is no (R57). -/
def cannotWeigh (roster : List RosterEntry) (contributor : Nat) : Bool :=
  match rosterFind roster contributor with
  | none => false
  | some e => e.weighing == some false

/-- Whether the totals of a load's records are approximate; dropped is the peer dropped mark (R40). -/
def State.approximate (s : State) (rs : List Contribution) (dropped : Bool) : Bool :=
  decide (0 < totalUnweighed rs) || dropped ||
    rs.any (fun r => !r.own && cannotWeigh s.roster r.contributor) ||
    (rs.any (·.own) && !s.weigh.available)

/-- Target minus total mass, absent when the target is 0 (R39). -/
def remainingMass (target total : Nat) : Option Int := if target = 0 then none else some ((target : Int) - total)

/-- The OVERLOAD condition (R41). -/
def State.overload (s : State) : Bool :=
  match s.trucks.receivingEntry with
  | none => false
  | some e =>
    decide (e.target ≠ 0) &&
      decide (e.target + s.settings.overloadMargin < totalMass (s.tally.loadRecords e.truck e.epoch))

/-- The CHANNEL condition (R133). -/
def ChannelAccess.condition (c : ChannelAccess) : Bool := c.carrierStuck || c.sendStall

/-! ## Weigh arithmetic -/

/-- A quotient rounded to the nearest whole number, an exact half rounding up; the divisor is above 0. -/
def roundHalfUp (num den : Int) : Int := (2 * num + den) / (2 * den)

/-- Head pressure times head area less rod pressure times rod area (R70). -/
def netForce (c : Settings) (r : LoadReading) : Int := r.head * c.headArea - r.rod * c.rodArea

/-- The mass of a WEIGH capture from the exact mean force sum / count (R73). -/
def captureMass (c : Settings) (zeroForce : Nat) (sum : Int) (count : Nat) : Nat :=
  let mass := roundHalfUp ((sum - zeroForce * count) * c.spanMass) (count * ((c.spanForce : Int) - zeroForce))
  (min (max mass 0) 65535).toNat

/-- The mean of a TARE capture, to the nearest newton (R84). -/
def captureMean (sum : Int) (count : Nat) : Int := roundHalfUp sum count

/-- A tared mean lies within a tenth of the configured zero force of it, and below the span force (R84). -/
def tareAccepted (c : Settings) (mean : Int) : Bool :=
  decide ((mean - c.zeroForce).natAbs ≤ c.zeroForce / 10) && decide (mean < c.spanForce)

/-- The density of the selected material. -/
def State.density (s : State) : Nat := (s.settings.materials[s.panel.material]?.map (·.density)).getD 0

/-- The fill of a mass for a bucket volume and a density, in whole percent, clamped to 199 (R80). -/
def fillPercent (volume density mass : Nat) : Nat :=
  min ((2 * (mass * 10000) + volume * density) / (2 * (volume * density))) 199

/-- The fill of an optional mass with the material selected now: absent when the mass is absent (R80). -/
def State.fill (s : State) (mass : Option Nat) : Option Nat :=
  mass.map (fillPercent s.settings.bucketVolume s.density)

/-- The window end (R62). -/
def Settings.windowEnd (c : Settings) : Int := c.windowStart + c.windowWidth

/-- An upward crossing of the window start (R64). -/
def upwardCrossing (c : Settings) (previous : Option Int) (boom : Int) : Bool :=
  match previous with
  | none => false
  | some p => decide (p < c.windowStart ∧ c.windowStart ≤ boom)

/-- More than 1.0 degree below the highest boom angle of the capture (R71). -/
def reversal (highest : Option Int) (boom : Int) : Bool :=
  match highest with
  | none => false
  | some h => decide (boom < h - 10)

/-! ## Line timing -/

/-- The rate in use: looped characters are timed at 57 600 baud (R152). -/
def State.rate (s : State) : LineRate := if s.link.loopback then .baud57600 else s.settings.rate

/-- More than three character times have passed since an instant (R137, R144). -/
def State.gapSince (s : State) (since : Option Instant) : Bool :=
  match since with
  | none => false
  | some t => decide (3 * s.rate.characterUnits < unitsBetween s.now t)

/-- At least so many units have passed since an instant. -/
def State.passedSince (s : State) (since : Option Instant) (units : Nat) : Bool :=
  match since with
  | none => false
  | some t => decide (units ≤ unitsBetween s.now t)

/-! ## When the part's own events are due (log entry 2) -/

def State.readTimerDue (s : State) : Bool := s.station == .configRead && timerDue s.partTime s.startup.readTimer
def State.selfTestTimerDue (s : State) : Bool := s.station == .selfTest && timerDue s.partTime s.startup.selfTestTimer
def State.joinTimerDue (s : State) : Bool := s.station == .listen && timerDue s.partTime s.startup.joinTimer
def State.scanTimerDue (s : State) : Bool := s.station.onFace && timerDue s.partTime s.scan.timer

/-- 8 ms have passed since the request of an OPEN scan (R110). -/
def State.scanTimeoutDue (s : State) : Bool :=
  match s.scan.inFlight with
  | none => false
  | some f => f.condition == .opened && decide (8 ≤ elapsed s.partTime f.requestedAt)

def State.delayTimerDue (s : State) : Bool := s.weigh.state == .delaying && timerDue s.partTime s.weigh.delayTimer
def State.tareRequestDue (s : State) : Bool := timerDue s.partTime s.weigh.tareRequest

/-- 3000 ms since last heard, in any state but LOST (R9). -/
def State.truckAgingDue (s : State) (truck : Nat) : Bool :=
  match s.trucks.find truck with
  | none => false
  | some e => e.state != .lost && decide (3000 ≤ elapsed s.partTime e.lastHeard)

/-- 30 s since lost since, in LOST (R10). -/
def State.lostHoldDue (s : State) (truck : Nat) : Bool :=
  match s.trucks.find truck with
  | none => false
  | some e => e.state == .lost && timerDue s.partTime (e.lostSince.map fun t => ⟨t, 30000⟩)

/-- 2500 ms since last heard, in LIVE (R51). -/
def State.rosterQuietDue (s : State) (loader : Nat) : Bool :=
  match rosterFind s.roster loader with
  | none => false
  | some e => e.state == .live && decide (2500 ≤ elapsed s.partTime e.lastHeard)

/-- 6000 ms since last heard, in QUIET (R52). -/
def State.rosterLostDue (s : State) (loader : Nat) : Bool :=
  match rosterFind s.roster loader with
  | none => false
  | some e => e.state == .quiet && decide (6000 ≤ elapsed s.partTime e.lastHeard)

/-- 60 s since lost since, in LOST (R53). -/
def State.rosterRemovalDue (s : State) (loader : Nat) : Bool :=
  match rosterFind s.roster loader with
  | none => false
  | some e => e.state == .lost && timerDue s.partTime (e.lostSince.map fun t => ⟨t, 60000⟩)

def State.beaconTimerDue (s : State) : Bool := s.station == .active && timerDue s.partTime s.channel.beaconTimer
def State.holdOffDue (s : State) : Bool := s.station == .active && timerDue s.partTime s.channel.holdOff
def State.carrierWatchDue (s : State) : Bool := s.station.onFace && timerDue s.partTime s.channel.carrierWatch

/-- The FIFO holds a byte and the assembler is not busy (R139). -/
def State.assemblerReady (s : State) : Bool := !s.link.fifo.isEmpty && !s.link.busy

/-- Inside a frame, the FIFO empty, more than three character times since last arrival (R144). -/
def State.gapDue (s : State) : Bool :=
  s.link.assembler != .hunting && s.link.fifo.isEmpty && s.gapSince s.link.lastArrival

/-- The free span of the blocks' taking has passed (R139, log entry 4). -/
def State.frameTakenDue (s : State) : Bool := s.link.busy && s.passedSince s.link.busySince s.link.busyUnits

/-- A character is being sent and its ten bit times are over (R148). -/
def State.characterSentDue (s : State) : Bool :=
  s.link.transmitter == .sending && s.link.onLine.isSome && s.passedSince s.link.charStart s.rate.characterUnits

def State.stallTimerDue (s : State) : Bool := s.link.transmitter == .held && timerDue s.partTime s.link.stallTimer
def State.acceptanceDue (s : State) : Bool := timerDue s.partTime (s.panel.transfer.map (·.timer))
def State.retryPauseDue (s : State) : Bool := timerDue s.partTime s.panel.retryPause
def State.debounceDue (s : State) (k : Key) : Bool := timerDue s.partTime (s.panel.debounce.get k)
def State.shiftHoldDue (s : State) : Bool := s.panel.keys.shift.isDown && timerDue s.partTime s.panel.shiftHold

end Sys2Proof.Machine
end

