-- ==== Sys2Proof/Machine/Display.lean ====
section
/-! DEFINITION. The sixteen field texts as their suppliers give them, alert ranking, and the handing of texts to the cab
panel unit (chapter 9). -/

namespace Sys2Proof.Machine

/-! ## Text building -/

/-- The decimal digits of a number; twenty digits are enough for every count of the part. -/
def digits : Nat → Nat → Text
  | 0, _ => []
  | fuel + 1, n => if n < 10 then [byteOf (48 + n)] else digits fuel (n / 10) ++ [byteOf (48 + n % 10)]

def decimal (n : Nat) : Text := digits 20 n

/-- A mass of 10 kg units in tonnes to one decimal, truncated (R155). -/
def tonnes (n : Nat) : Text := decimal (n / 100) ++ textOf ['.'] ++ decimal (n / 10 % 10)

/-- A signed remaining mass (R155); the sign of one that shows as 0.0 and is not above 0 is free (log entry 18). -/
def signedTonnes (n : Int) : Text :=
  let plus := if n ≤ 0 ∧ n.natAbs < 10 then Config.zeroRemainingPlus n else decide (0 < n)
  (if plus then textOf ['+'] else textOf ['-']) ++ tonnes n.natAbs

def threeDashes : Text := textOf ['-', '-', '-']
def twoDashes : Text := textOf ['-', '-']

/-! ## The suppliers' texts (R155) -/

/-- Field 0 (R157). -/
def stationText : StationState → Text
  | .reset => textOf ['S', 'T', 'A', 'R', 'T', 'I', 'N', 'G']
  | .configRead => textOf ['S', 'T', 'A', 'R', 'T', 'I', 'N', 'G']
  | .selfTest => textOf ['S', 'E', 'L', 'F', 'T', 'E', 'S', 'T']
  | .listen => textOf ['L', 'I', 'S', 'T', 'E', 'N']
  | .active => textOf ['A', 'C', 'T', 'I', 'V', 'E']
  | .silent => textOf ['S', 'I', 'L', 'E', 'N', 'T']
  | .halted => textOf ['H', 'A', 'L', 'T', 'E', 'D']

/-- The line texts of the eight alerts. -/
def alertText : Alert → Text
  | .state .conflict => textOf ['C', 'O', 'N', 'F', 'L', 'I', 'C', 'T']
  | .state .sensor => textOf ['S', 'E', 'N', 'S', 'O', 'R']
  | .state .channel => textOf ['C', 'H', 'A', 'N', 'N', 'E', 'L']
  | .state .overload => textOf ['O', 'V', 'E', 'R', 'L', 'O', 'A', 'D']
  | .event .table => textOf ['T', 'A', 'B', 'L', 'E']
  | .event .unweighed => textOf ['N', 'O', ' ', 'W', 'E', 'I', 'G', 'H']
  | .event .tare => textOf ['T', 'A', 'R', 'E']
  | .state .config => textOf ['C', 'O', 'N', 'F', 'I', 'G']

/-- The alert line of a HALTED part (R157). -/
def haltText : Option HaltReason → Text
  | none => []
  | some .config => textOf ['C', 'O', 'N', 'F', 'I', 'G']
  | some .linktest => textOf ['L', 'I', 'N', 'K', 'T', 'E', 'S', 'T']

/-- The alerts in order of priority (chapter 9.5). -/
def alertOrder : List Alert :=
  [.state .conflict, .state .sensor, .state .channel, .state .overload, .event .table, .event .unweighed, .event .tare,
   .state .config]

/-- Latched and not acknowledged (R168). -/
def Alerts.wanted (a : Alerts) : Alert → Bool
  | .state k => (a.stateLatch k).latched && !(a.stateLatch k).acknowledged
  | .event k => (a.eventLatch k).latched

/-- The highest-priority alert that is latched and not acknowledged (R168). -/
def Alerts.ranked (a : Alerts) : Option Alert := alertOrder.find? a.wanted

/-- The alert whose line text a text is (R169). -/
def alertShown (t : Text) : Option Alert := alertOrder.find? fun a => padText (alertText a) == t

def qualityText : Quality → Text
  | .good => textOf ['G', 'O', 'O', 'D']
  | .retaken => textOf ['R', 'E', 'T', 'A', 'K', 'E', 'N']
  | .short => textOf ['S', 'H', 'O', 'R', 'T']
  | .tilted => textOf ['T', 'I', 'L', 'T', 'E', 'D']
  | .unstable => textOf ['U', 'N', 'S', 'T', 'A', 'B', 'L', 'E']
  | .none => textOf ['N', 'O', 'N', 'E']

/-- What fields 2 to 4 show: mass, fill and quality text of the held result, else of the newest pass (R74, R98). -/
def State.shownPass (s : State) : Option (Option Nat × Option Nat × Text) :=
  match s.weigh.held with
  | some h => some (h.mass, s.fill h.mass, qualityText h.quality)
  | none =>
    match s.cycle.passes.getLast? with
    | none => none
    | some p => some (p.mass, p.fill, if p.voided then textOf ['V', 'O', 'I', 'D'] else qualityText p.quality)

def optionalText (shown : Option Nat) (f : Nat → Text) : Text :=
  match shown with
  | none => threeDashes
  | some n => f n

def passMassText (s : State) : Text :=
  match s.shownPass with
  | none => []
  | some (m, _, _) => optionalText m tonnes

def fillText (s : State) : Text :=
  match s.shownPass with
  | none => []
  | some (_, f, _) => optionalText f fun n => decimal n ++ textOf ['%']

def passQualityText (s : State) : Text :=
  match s.shownPass with
  | none => []
  | some (_, _, q) => q

/-- Field 5 (R20). -/
def receivingText (s : State) : Text :=
  match s.trucks.receiving with
  | none => textOf ['N', 'O', ' ', 'T', 'R', 'U', 'C', 'K']
  | some n => textOf ['T'] ++ decimal n ++ if s.trucks.pin.isSome then textOf [' ', 'P', 'I', 'N'] else []

/-- The records of the receiving truck's current load. -/
def State.receivingRecords (s : State) (e : TruckEntry) : List Contribution := s.tally.loadRecords e.truck e.epoch

/-- Fields 6 to 9 (R42). -/
def payloadText (s : State) : Text :=
  match s.trucks.receivingEntry with
  | none => threeDashes
  | some e =>
    let rs := s.receivingRecords e
    tonnes (totalMass rs) ++ if s.approximate rs e.peerDropped then textOf ['~'] else []

def targetText (s : State) : Text :=
  match s.trucks.receivingEntry with
  | none => threeDashes
  | some e => if e.target = 0 then threeDashes else tonnes e.target

def remainingText (s : State) : Text :=
  match s.trucks.receivingEntry with
  | none => threeDashes
  | some e =>
    match remainingMass e.target (totalMass (s.receivingRecords e)) with
    | none => threeDashes
    | some r => signedTonnes r

def truckPassesText (s : State) : Text :=
  match s.trucks.receivingEntry with
  | none => threeDashes
  | some e =>
    let rs := s.receivingRecords e
    decimal (totalPasses rs) ++ textOf ['/'] ++ decimal (ownPasses rs)

/-- The mark after the partner's number (R56). -/
def partnerMark (s : State) (loader : Nat) : Text :=
  match rosterFind s.roster loader with
  | none => textOf ['?']
  | some e =>
    match e.state, e.receiving with
    | .live, none => []
    | .live, some r => if r = s.trucks.receiving then [] else textOf ['*']
    | .quiet, _ => textOf ['?']
    | .lost, _ => textOf ['?']

/-- Field 10 (R56). -/
def partnerText (s : State) : Text :=
  match s.partner with
  | none => twoDashes
  | some n => decimal n ++ partnerMark s n

/-- Field 11 (R98). -/
def cyclesText (s : State) : Text :=
  decimal (min s.cycle.cycles 65535) ++ textOf ['/'] ++ decimal (min s.cycle.abandoned 99)

/-- Field 12: own mass plus pile mass, held at 99999.9 t (R46, R155). -/
def shiftMassText (s : State) : Text := tonnes (min (s.tally.shift.ownMass + s.tally.shift.pileMass) 9999999)

/-- Field 13: the newest closed load with own passes (R44). -/
def lastLoadText (s : State) : Text :=
  match s.tally.log.reverse.find? (fun c => decide (0 < c.ownPasses)) with
  | none => threeDashes
  | some c => decimal c.truck ++ textOf [':'] ++ tonnes c.ownMass

/-- Field 14: the selected material's name, blank before validation (R156, R164). -/
def materialText (s : State) : Text := (s.settings.materials[s.panel.material]?.map (·.name)).getD []

/-- Field 15 (R13). -/
def waitingText (s : State) : Text := textOf ['Q', ' '] ++ decimal s.trucks.queue.length

/-- Field 1: the ranked alert's text; the text stays while a freeze is present (R168, R169). -/
def alertLineText (s : State) : Text :=
  match s.panel.alerts.freeze with
  | some _ => (s.panel.fields[1]?.map (·.text)).getD []
  | none =>
    match s.panel.alerts.ranked with
    | none => []
    | some a => alertText a

/-- The text of a field, before padding, in every state but HALTED (R155). -/
def suppliedText (s : State) : Nat → Text
  | 0 => stationText s.station
  | 1 => alertLineText s
  | 2 => passMassText s
  | 3 => fillText s
  | 4 => passQualityText s
  | 5 => receivingText s
  | 6 => payloadText s
  | 7 => targetText s
  | 8 => remainingText s
  | 9 => truckPassesText s
  | 10 => partnerText s
  | 11 => cyclesText s
  | 12 => shiftMassText s
  | 13 => lastLoadText s
  | 14 => materialText s
  | 15 => waitingText s
  | _ => []

/-- In HALTED the display holds the state, the reason and blanks (R157). -/
def haltedText (s : State) : Nat → Text
  | 0 => stationText .halted
  | 1 => haltText s.startup.haltReason
  | _ => []

/-- The text a field shows, padded to 8 characters. -/
def fieldText (s : State) (field : Nat) : Text :=
  padText (if s.station = .halted then haltedText s field else suppliedText s field)

/-! ## Handing the texts (R156) -/

/-- A field that is handed its supplier's text: a text that differs becomes the current one, and the field joins the
pending field set (R156). -/
def FieldCell.hand (c : FieldCell) (text : Text) : FieldCell := if text = c.text then c else ⟨text, true⟩

/-- The cells from field number i on after the fields that are handed have taken their suppliers' texts. -/
def handTexts (s : State) (handed : Nat → Bool) : Nat → List FieldCell → List FieldCell
  | _, [] => []
  | i, c :: cs => (if handed i then c.hand (fieldText s i) else c) :: handTexts s handed (i + 1) cs

/-- Texts handed at one moment, in field order, and a transfer started when it may: at the first field that joins an
empty set, which is the lowest of those that change (R156, R158, log entry 13). -/
def State.handWhere (s : State) (handed : Nat → Bool) : State :=
  { s with panel := { s.panel with fields := handTexts s handed 0 s.panel.fields } }.startTransfer

/-- The texts of the listed fields handed. -/
abbrev State.hand (s : State) (fields : List Nat) : State := s.handWhere fields.contains

/-- The text of every field handed. -/
abbrev State.showTexts (s : State) : State := s.handWhere fun _ => true

end Sys2Proof.Machine
end

