-- ==== Sys2Proof/Machine/Channel.lean ====
section
/-! DEFINITION. Channel access: the transmit queue, beacons, pass notices, hold-off, the carrier watch and the CHANNEL
condition (chapter 7), and the settling every changing command ends with. -/

namespace Sys2Proof.Machine

/-! ## The transmit queue -/

/-- A notice joins the queue: in the place of one for the same truck and epoch; else behind the notices, the oldest of
four removed first (R125). -/
def ChannelAccess.queueNotice (c : ChannelAccess) (n : Notice) : ChannelAccess :=
  let sameKey := fun (q : Notice) => q.slot.truck == n.slot.truck && q.slot.epoch == n.slot.epoch
  if c.notices.any sameKey then { c with notices := c.notices.map fun q => if sameKey q then n else q }
  else if c.notices.length < 4 then { c with notices := c.notices ++ [n] }
  else { c with notices := c.notices.drop 1 ++ [n] }

/-- The transmit queue is empty (R126). -/
def ChannelAccess.queueEmpty (c : ChannelAccess) : Bool := c.notices.isEmpty && c.parts.isEmpty

/-- The head of the queue as header and payload, and the queue without it (R126, R129). -/
def ChannelAccess.takeHead (c : ChannelAccess) (station : Nat) : Option (List Byte × ChannelAccess) :=
  match c.notices, c.parts with
  | n :: ns, _ => some (n.frame station, { c with notices := ns })
  | [], p :: ps => some (p.frame station, { c with parts := ps })
  | [], [] => none

/-! ## Beacons (R121 to R123) -/

/-- The values of a record as an entry slot. -/
def Contribution.slot (r : Contribution) : Slot := ⟨r.truck, r.epoch, r.revision, r.passes, r.unweighed, r.mass⟩

/-- A slot placed by ascending truck number. -/
def insertSlot (e : Slot) : List Slot → List Slot
  | [] => [e]
  | x :: xs => if e.truck ≤ x.truck then e :: x :: xs else x :: insertSlot e xs

/-- The own records as slots in ascending order of truck number (R122). -/
def LoadTally.ownSlots (t : LoadTally) : List Slot :=
  ((t.records.filter (·.own)).map Contribution.slot).foldr insertSlot []

/-- Six slots: the given ones, and padding behind them (R122). -/
def sixSlots (es : List Slot) : List Slot := (es ++ List.replicate 6 Slot.padding).take 6

/-- The parts of a beacon built now: one for at most 6 own records, two for more (R122). -/
def State.beaconParts (s : State) (sequence : Byte) : List BeaconPart :=
  let es := s.tally.ownSlots
  let parts := if es.length ≤ 6 then 1 else 2
  let part := fun n slots =>
    { sequence := sequence, part := n, parts := parts, weighing := s.weigh.available,
      receiving := s.trucks.receiving.getD 0, slots := sixSlots slots : BeaconPart }
  if es.length ≤ 6 then [part 1 es] else [part 1 (es.take 6), part 2 (es.drop 6)]

/-- A beacon is built with the next sequence, and its parts replace the queued parts (R121, R122, R123). -/
def State.buildBeacon (s : State) : State :=
  let sequence := s.channel.beaconSequence + 1
  { s with channel := { s.channel with beaconSequence := sequence, parts := s.beaconParts sequence } }

/-- A pass notice for a changed own record, handed over in ACTIVE only (R35, R124). -/
def State.handNotice (s : State) (r : Contribution) : State :=
  if s.station = .active then
    { s with channel := s.channel.queueNotice ⟨r.slot, s.channel.beaconSequence⟩ }
  else s

/-! ## Hold-off -/

/-- The hold-off starts when frames wait, no own frame is on the line and CD_IN is inactive, in ACTIVE; its run is 10 ms
plus 4 ms for each rank read now (R127, R55): 10 to 54 ms, and 58 ms at the rank of 12 that log entry 31 tells of. -/
def State.startHoldOff (s : State) : State :=
  if s.station = .active ∧ !s.channel.queueEmpty ∧ !s.channel.frameOnLine ∧ !s.pins.cdIn ∧ s.channel.holdOff.isNone then
    { s with channel := { s.channel with holdOff := s.timer (10 + 4 * s.rank) } }
  else s

/-- What every changing command ends with: the hold-off starts when it may, and every text is handed (R127, R156,
log entry 13). -/
def State.settle (s : State) : State := s.startHoldOff.showTexts

/-- The CHANNEL condition handed to the cab panel unit (R133). -/
def State.reportChannel (s : State) : State := s.report .channel s.channel.condition

/-- On leaving ACTIVE the queue is emptied and the beacon and hold-off timers stop (R131). -/
def ChannelAccess.leaveActive (c : ChannelAccess) : ChannelAccess :=
  { c with notices := [], parts := [], beaconTimer := none, holdOff := none }

/-- A carrier rise that channel access watches: a running hold-off is abandoned and the watch starts (R128, R132). -/
def State.watchCarrier (s : State) : State :=
  { s with channel := { s.channel with holdOff := none, carrierWatch := s.timer 2000 } }

/-- The end of the frame on the line reported: the watch starts afresh when CD_IN is active (R129, R132). -/
def State.endOwnFrame (s : State) : State :=
  { s with channel := { s.channel with
      frameOnLine := false,
      carrierWatch := if s.station.onFace && s.pins.cdIn then s.timer 2000 else none } }

/-! ## Commands -/

/-- BEACON_TIMER_EXPIRY (R120): a beacon is built and queued, and the next expiry stays one period behind this one. -/
def execBeaconTimerExpiry (s : State) : Host.Outcome State Fault Refusal :=
  if s.beaconTimerDue then
    let s := s.buildBeacon
    Taken { s with channel := { s.channel with beaconTimer := nextPeriod s.channel.beaconTimer } }.settle
  else Taken s

/-- CARRIER_RISE (R128, R132, R151): outside LISTEN, ACTIVE and SILENT, and while an own frame is on the line, only the
level of CD_IN changes. -/
def execCarrierRise (s : State) : Host.Outcome State Fault Refusal :=
  if s.pins.cdIn then Taken s
  else
    let s := { s with pins := { s.pins with cdIn := true } }
    if s.station.onFace && !s.channel.frameOnLine then Taken s.watchCarrier else Taken s

/-- CARRIER_FALL (R127, R132, R151): the watch stops, carrier stuck becomes no, the hold-off may start. -/
def execCarrierFall (s : State) : Host.Outcome State Fault Refusal :=
  if s.pins.cdIn then
    let s := { s with pins := { s.pins with cdIn := false } }
    if s.station.onFace then
      Taken { s with channel := { s.channel with carrierWatch := none, carrierStuck := false } }.reportChannel.settle
    else Taken s
  else Taken s

/-- CARRIER_WATCH_EXPIRY (R132): carrier stuck becomes yes. -/
def execCarrierWatchExpiry (s : State) : Host.Outcome State Fault Refusal :=
  if s.carrierWatchDue then
    Taken { s with channel := { s.channel with carrierWatch := none, carrierStuck := true } }.reportChannel.settle
  else Taken s

end Sys2Proof.Machine
end

