-- ==== Sys2Proof/Machine/Tally.lean ====
section
/-! DEFINITION. The load tally: credits, voids, the merge of items, adoption, closures and the shift totals (chapter 2). -/

namespace Sys2Proof.Machine

/-- An unsigned 32-bit total: an increase past 4 294 967 295 leaves it there (R46). -/
def addTotal (total amount : Nat) : Nat := min (total + amount) 4294967295

/-- The OVERLOAD condition evaluated, and a change of it reported (R41). -/
def State.evalOverload (s : State) : State := s.report .overload s.overload

/-! ## Credits (R30 to R32) -/

/-- A pile pass in the shift totals (R30). -/
def ShiftTotals.addPile (t : ShiftTotals) : Option Nat → ShiftTotals
  | some m => { t with pilePasses := addTotal t.pilePasses 1, pileMass := addTotal t.pileMass m }
  | none => { t with pilePasses := addTotal t.pilePasses 1, unweighed := addTotal t.unweighed 1 }

/-- A truck pass in the shift totals (R31). -/
def ShiftTotals.addOwn (t : ShiftTotals) : Option Nat → ShiftTotals
  | some m => { t with ownPasses := addTotal t.ownPasses 1, ownMass := addTotal t.ownMass m }
  | none => { t with ownPasses := addTotal t.ownPasses 1, unweighed := addTotal t.unweighed 1 }

/-- A record that takes one more pass; a mass past 65535 is stored as 65535 (R31). -/
def Contribution.credited (r : Contribution) : Option Nat → Contribution
  | some m => { r with revision := r.revision + 1, passes := r.passes + 1, mass := min (r.mass + m) 65535 }
  | none => { r with revision := r.revision + 1, passes := r.passes + 1, unweighed := r.unweighed + 1 }

/-- The own record of a load before its first pass. -/
def emptyOwnRecord (station : Nat) (l : Load) : Contribution := ⟨station, l.truck, l.epoch, 0, 0, 0, 0, true⟩

/-- A credit to the pile (R30). -/
def State.creditPile (s : State) (mass : Option Nat) : State :=
  { s with tally := { s.tally with shift := s.tally.shift.addPile mass } }

/-- A refused credit goes to the pile and TABLE is raised (R32). -/
def State.refuseCredit (s : State) (mass : Option Nat) : State := (s.creditPile mass).raise .table

/-- A credit that reaches an own record: the records and shift totals after it, the notice, the overload (R31, R35,
R41). -/
def State.creditOwn (s : State) (mass : Option Nat) (records : List Contribution) (r : Contribution) : State :=
  ({ s with tally := { s.tally with records := records, shift := s.tally.shift.addOwn mass } }.handNotice r).evalOverload

/-- A credit claim and the tally's answer, a load or the pile (R30, R31, R32). -/
def State.credit (s : State) (mass : Option Nat) (load : Option Load) : State × Option Load :=
  match load with
  | none => (s.creditPile mass, none)
  | some l =>
    match s.trucks.find l.truck with
    | none => (s.creditPile mass, none)
    | some e =>
      if e.epoch ≠ l.epoch then (s.creditPile mass, none)
      else
        match findRecord s.tally.records s.settings.station l.truck l.epoch with
        | some r =>
          if 255 ≤ r.revision ∨ 48 ≤ r.passes then (s.refuseCredit mass, none)
          else
            (s.creditOwn mass
              (updateRecord s.tally.records s.settings.station l.truck l.epoch (·.credited mass)) (r.credited mass),
             some l)
        | none =>
          if 12 ≤ s.tally.ownCount then (s.refuseCredit mass, none)
          else
            let r := (emptyOwnRecord s.settings.station l).credited mass
            (s.creditOwn mass (s.tally.records ++ [r]) r, some l)

/-! ## Voids (R33, R34) -/

/-- A pile pass taken back; a count that would go below 0 is left at 0 (R33). -/
def ShiftTotals.voidPile (t : ShiftTotals) : Option Nat → ShiftTotals
  | some m => { t with pilePasses := t.pilePasses - 1, pileMass := t.pileMass - m }
  | none => { t with pilePasses := t.pilePasses - 1, unweighed := t.unweighed - 1 }

/-- A truck pass taken back (R34; at 0 a count stays, log entry 22). -/
def ShiftTotals.voidOwn (t : ShiftTotals) : Option Nat → ShiftTotals
  | some m => { t with ownPasses := t.ownPasses - 1, ownMass := t.ownMass - m }
  | none => { t with ownPasses := t.ownPasses - 1, unweighed := t.unweighed - 1 }

/-- The record can absorb the void (R34). -/
def Contribution.absorbs (r : Contribution) (mass : Option Nat) : Bool :=
  decide (1 ≤ r.passes) && decide (r.revision < 255) &&
    (match mass with
     | some m => decide (m ≤ r.mass)
     | none => decide (1 ≤ r.unweighed))

/-- A record with one pass taken back, at the next revision (R34). The void of a weighed pass leaves unweighed as it is,
but no greater than the passes that are left (R23; DESIGN CHOICE where the two rules differ, log entry 30). -/
def Contribution.withdrawn (r : Contribution) : Option Nat → Contribution
  | some m =>
    { r with
      revision := r.revision + 1, passes := r.passes - 1, mass := r.mass - m,
      unweighed := min r.unweighed (r.passes - 1) }
  | none => { r with revision := r.revision + 1, passes := r.passes - 1, unweighed := r.unweighed - 1 }

/-- A void claim and whether it is taken (R33, R34). -/
def State.voidClaim (s : State) (mass : Option Nat) (load : Option Load) : State × Bool :=
  match load with
  | none => ({ s with tally := { s.tally with shift := s.tally.shift.voidPile mass } }, true)
  | some l =>
    match s.trucks.find l.truck with
    | none => (s, false)
    | some e =>
      if e.epoch ≠ l.epoch then (s, false)
      else
        match findRecord s.tally.records s.settings.station l.truck l.epoch with
        | none => (s, false)
        | some r =>
          if r.absorbs mass then
            (({ s with tally := { s.tally with
                  records := updateRecord s.tally.records s.settings.station l.truck l.epoch (·.withdrawn mass),
                  shift := s.tally.shift.voidOwn mass } }.handNotice (r.withdrawn mass)).evalOverload, true)
          else (s, false)

/-! ## Items (R24 to R28, R36, R37) -/

/-- One contribution carried by a frame (R24). -/
structure Item where
  sender : Nat
  contributor : Nat
  truck : Nat
  epoch : Nat
  revision : Nat
  passes : Nat
  unweighed : Nat
  mass : Nat
deriving DecidableEq, Repr

/-- The checks before the merge (R25). -/
def Item.passesChecks (i : Item) (station : Nat) : Bool :=
  i.sender != station && isStation i.contributor && isStation i.truck && decide (1 ≤ i.revision) &&
    decide (i.passes ≤ 48) && decide (i.unweighed ≤ i.passes)

/-- A record as an item gives it. -/
def Item.record (i : Item) (own : Bool) : Contribution :=
  ⟨i.contributor, i.truck, i.epoch, i.revision, i.passes, i.unweighed, i.mass, own⟩

/-- A record that takes an item's values (R28, R37). -/
def Contribution.replaced (r : Contribution) (i : Item) : Contribution :=
  { r with revision := i.revision, passes := i.passes, unweighed := i.unweighed, mass := i.mass }

/-- The peer dropped mark of a truck's entry set (R22). -/
def State.markDropped (s : State) (truck : Nat) : State :=
  { s with trucks := s.trucks.update truck fun e => { e with peerDropped := true } }

/-- The records replaced. -/
def State.withRecords (s : State) (rs : List Contribution) : State :=
  { s with tally := { s.tally with records := rs } }

/-- A matched peer item (R27, R28). -/
def State.mergePeer (s : State) (i : Item) : State :=
  match findRecord s.tally.records i.contributor i.truck i.epoch with
  | some r =>
    if r.revision < i.revision then
      (s.withRecords (updateRecord s.tally.records i.contributor i.truck i.epoch (·.replaced i))).evalOverload
    else s
  | none =>
    if 36 ≤ s.tally.peerCount then s.markDropped i.truck
    else (s.withRecords (s.tally.records ++ [i.record false])).evalOverload

/-- A matched item that names this station: adoption (R36, R37, R35). -/
def State.adopt (s : State) (i : Item) : State :=
  match findRecord s.tally.records i.contributor i.truck i.epoch with
  | some r =>
    if r.revision < i.revision then
      ((s.withRecords (updateRecord s.tally.records i.contributor i.truck i.epoch (·.replaced i))).handNotice
        (r.replaced i)).evalOverload
    else s
  | none =>
    if 12 ≤ s.tally.ownCount then (s.markDropped i.truck).raise .table
    else ((s.withRecords (s.tally.records ++ [i.record true])).handNotice (i.record true)).evalOverload

/-- The single merge rule (R25, R26). -/
def State.mergeItem (s : State) (i : Item) : State :=
  if i.passesChecks s.settings.station then
    match s.trucks.find i.truck with
    | none => s
    | some e =>
      if e.epoch ≠ i.epoch then s
      else if i.contributor = s.settings.station then s.adopt i
      else s.mergePeer i
  else s

/-- One item taken whole, with the texts it changes (R24, R42). -/
abbrev State.takeItem (s : State) (i : Item) : State := (s.mergeItem i).showTexts

/-- The items of a frame, in slot order, each taken whole before the next (R24). -/
def State.mergeItems (s : State) (is : List Item) : State := is.foldl State.takeItem s

/-- The item of an entry slot; a slot whose truck is 0 is padding (R24). -/
def slotItem (sender : Nat) (e : Slot) : Option Item :=
  if e.truck = 0 then none
  else some ⟨sender, sender, e.truck, e.epoch, e.revision, e.passes, e.unweighed, e.mass⟩

/-- The item of an echo slot, tagged with the truck and its epoch; contributor 0 forms none (R6, R24). -/
def echoItem (truck epoch : Nat) (e : Echo) : Option Item :=
  if e.contributor = 0 then none
  else some ⟨truck, e.contributor, truck, epoch, e.revision, e.passes, e.unweighed, e.mass⟩

/-! ## Closing a load (R43, R44) -/

/-- A closed-load entry at the tail of the log of at most 8 (R44). -/
def LoadTally.addClosed (t : LoadTally) (c : ClosedLoad) : LoadTally :=
  { t with
    log := (if 8 ≤ t.log.length then t.log.drop 1 else t.log) ++ [c],
    shift := { t.shift with
      loadsClosed := if 0 < c.ownPasses then addTotal t.shift.loadsClosed 1 else t.shift.loadsClosed } }

/-- The closed-load entry of gathered records, from the entry as it stood just before (R43, R21). -/
def State.closedLoad (s : State) (e : TruckEntry) (reason : CloseReason) (rs : List Contribution) : ClosedLoad where
  truck := e.truck
  epoch := e.epoch
  reason := reason
  totalMass := totalMass rs
  totalPasses := totalPasses rs
  unweighed := totalUnweighed rs
  ownPasses := ownPasses rs
  ownMass := ownMass rs
  contributors := rs.countP fun r => decide (0 < r.passes)
  target := e.target
  onBoard := e.onBoard
  approximate := s.approximate rs e.peerDropped
  closedAt := s.partTime

/-- The tally after a close claim: the load's records leave the table, and are summed up in the log when there was any
(R43). -/
def State.closedTally (s : State) (e : TruckEntry) (reason : CloseReason) : LoadTally :=
  let rs := s.tally.loadRecords e.truck e.epoch
  if rs.isEmpty then s.tally
  else
    let kept := s.tally.records.filter fun r => !(r.truck == e.truck && r.epoch == e.epoch)
    { s.tally with records := kept }.addClosed (s.closedLoad e reason rs)

/-- The tally takes a close claim whole, with the texts it changes (R21, R41 to R44). -/
def State.closeLoad (s : State) (e : TruckEntry) (reason : CloseReason) : State :=
  { s with tally := s.closedTally e reason }.evalOverload.showTexts

/-- The shift reset of the tally: six totals 0, the log empty (R46). -/
def LoadTally.shiftReset (t : LoadTally) : LoadTally := { t with log := [], shift := ⟨0, 0, 0, 0, 0, 0⟩ }

end Sys2Proof.Machine
end

