-- ==== Sys2Proof/Machine/Trucks.lean ====
section
/-! DEFINITION. The truck table: truck beacons, the spot queue, the pin, aging and the lost hold (chapter 1). -/

namespace Sys2Proof.Machine

/-! ## Truck beacons -/

/-- The conditions a truck beacon meets to be taken (R2). -/
def TruckBeacon.accepted (b : TruckBeacon) (station : Nat) : Bool :=
  b.senderKind == 2 && isStation b.truck && b.truck != station && b.epoch != 0 && b.code != 0

/-- The entry state a beacon gives (R3). -/
def TruckBeacon.state (b : TruckBeacon) (station : Nat) : TruckState :=
  match b.code with
  | 1 => .inbound
  | 2 => if b.spottedAt.contains station then .spottedHere else .spottedAway
  | _ => .departing

/-- An entry as a beacon refreshes it, epoch, marks and queue apart (R3, R4). -/
def TruckEntry.refreshed (e : TruckEntry) (b : TruckBeacon) (station : Nat) (now : PartTime) : TruckEntry :=
  { e with state := b.state station, spottedAt := b.spottedAt, target := b.target, onBoard := b.onBoard,
           lastHeard := now, lostSince := none }

/-- A new entry (R7). -/
def TruckBeacon.newEntry (b : TruckBeacon) (station : Nat) (now : PartTime) : TruckEntry :=
  ⟨b.truck, b.epoch, b.state station, b.spottedAt, b.target, b.onBoard, now, none, false, false⟩

/-! ## The spot queue (R13 to R18) -/

/-- A truck added at the tail, unless it is there already (R13). -/
def TruckTable.join (t : TruckTable) (truck : Nat) : TruckTable :=
  { t with queue := if t.queue.contains truck then t.queue else t.queue ++ [truck] }

/-- A truck out of the queue, and its pin cleared in the same step (R14, R18). -/
def TruckTable.leave (t : TruckTable) (truck : Nat) : TruckTable :=
  { t with queue := t.queue.filter (· != truck), pin := if t.pin = some truck then none else t.pin }

/-- The waiting spot mark of a truck's entry. -/
def TruckTable.markWaiting (t : TruckTable) (truck : Nat) (mark : Bool) : TruckTable :=
  t.update truck fun e => { e with waitingSpot := mark }

/-- The spot queue after a beacon, by the entry's state and mark before it: it enters SPOTTED_HERE (R13, R15), joins
from a waiting spot (R16), stays, or leaves (R14). -/
def State.spotChange (s : State) (truck : Nat) (wasHere waiting isHere : Bool) : State :=
  let room := decide (s.trucks.queue.length < 3)
  if isHere then
    if wasHere then
      if waiting && room then { s with trucks := (s.trucks.join truck).markWaiting truck false } else s
    else if room then { s with trucks := s.trucks.join truck }
    else { s with trucks := s.trucks.markWaiting truck true }.raise .table
  else if wasHere then
    if waiting then { s with trucks := s.trucks.markWaiting truck false }
    else { s with trucks := s.trucks.leave truck }
  else s

/-- The echo items handed over after the entry has been updated (R6). -/
def State.handEchoes (s : State) (b : TruckBeacon) : State :=
  s.mergeItems (b.echoes.filterMap (echoItem b.truck b.epoch))

/-- A beacon of a truck that has an entry: the old load is closed first when the epoch differs, then the entry is
refreshed, or revived from LOST, and the queue follows, with the texts these change (R4, R5, R11, R12). -/
def State.refreshEntry (s : State) (e : TruckEntry) (b : TruckBeacon) : State :=
  let station := s.settings.station
  let newLoad := decide (b.epoch ≠ e.epoch)
  let s := if newLoad then s.closeLoad e .newLoad else s
  let s := { s with trucks := s.trucks.update b.truck fun x =>
    { x.refreshed b station s.partTime with
        epoch := b.epoch, peerDropped := if newLoad then false else x.peerDropped } }
  (s.spotChange b.truck (e.state == .spottedHere) e.waitingSpot (b.state station == .spottedHere)).evalOverload.showTexts

/-- A beacon of a truck that has no entry, with a place for it, and the texts it changes (R7). -/
def State.createEntry (s : State) (b : TruckBeacon) : State :=
  let station := s.settings.station
  let s := { s with trucks := { s.trucks with entries := s.trucks.entries ++ [b.newEntry station s.partTime] } }
  (s.spotChange b.truck false false (b.state station == .spottedHere)).evalOverload.showTexts

/-- The LOST entry evicted for a newcomer: the oldest by last heard (R8). -/
def State.evictionChoice (s : State) : Option TruckEntry :=
  match oldestOf s.partTime
      ((s.trucks.entries.filter fun e => e.state == .lost).map fun e => (e.truck, e.lastHeard)) with
  | none => none
  | some n => s.trucks.find n

/-- A beacon dispatched to the truck table (R2, R4 to R8, R11, R12). Behind the closure, the evicted entry's removal and
the newcomer's entry are one change, with no text handed between them, which R8 leaves open (DESIGN CHOICE, log entry
13). -/
def State.takeTruckBeacon (s : State) (b : TruckBeacon) : State :=
  if b.accepted s.settings.station then
    match s.trucks.find b.truck with
    | some e => (s.refreshEntry e b).handEchoes b
    | none =>
      if s.trucks.entries.length < 16 then (s.createEntry b).handEchoes b
      else
        match s.evictionChoice with
        | none => s.raise .table
        | some old =>
          let s := s.closeLoad old .evicted
          ({ s with trucks := s.trucks.remove old.truck }.createEntry b).handEchoes b
  else s

/-! ## Aging -/

/-- An entry enters LOST: it leaves the queue, its pin and its waiting spot mark are cleared (R9). -/
def State.truckLost (s : State) (truck : Nat) : State :=
  let t := s.trucks.update truck fun e =>
    { e with state := .lost, lostSince := some s.partTime, waitingSpot := false }
  { s with trucks := t.leave truck }.evalOverload

/-- The end of the lost hold: the load is closed with reason LOST and the entry removed (R10). -/
def State.truckRemoved (s : State) (e : TruckEntry) : State :=
  let s := s.closeLoad e .lost
  { s with trucks := s.trucks.remove e.truck }.evalOverload

/-- TRUCK_AGING_EXPIRY (R9). -/
def execTruckAgingExpiry (truck : Nat) (s : State) : Host.Outcome State Fault Refusal :=
  if s.truckAgingDue truck then Taken (s.truckLost truck).settle else Taken s

/-- LOST_HOLD_END (R10). -/
def execLostHoldEnd (truck : Nat) (s : State) : Host.Outcome State Fault Refusal :=
  if s.lostHoldDue truck then
    match s.trucks.find truck with
    | none => Taken s
    | some e => Taken (s.truckRemoved e).settle
  else Taken s

/-! ## The NEXT key -/

/-- A NEXT press moves the pin to the queue member after the receiving truck; an empty queue makes it nothing (R17). -/
def State.pressNext (s : State) : State :=
  match s.trucks.queue with
  | [] => s
  | _ :: _ => { s with trucks := { s.trucks with pin := s.trucks.following } }.evalOverload

end Sys2Proof.Machine
end

