-- ==== Sys2Proof/Machine/Roster.lean ====
section
/-! DEFINITION. The loader roster: beacon parts and pass notices taken, aging, replacement (chapter 3). -/

namespace Sys2Proof.Machine

/-- An entry heard now: LIVE, with no lost since (R48, R49). -/
def RosterEntry.heard (e : RosterEntry) (now : PartTime) : RosterEntry :=
  { e with state := .live, lastHeard := now, lostSince := none }

/-- What a beacon part tells beside its sender (R48). -/
structure PartFacts where
  sequence : Byte
  weighing : Bool
  receiving : Option Nat
deriving DecidableEq, Repr

/-- A part whose sequence differs from the stored one begins a new beacon; a further part of the same beacon refreshes
liveness only (R48). -/
def RosterEntry.takePart (e : RosterEntry) (now : PartTime) (p : PartFacts) : RosterEntry :=
  if e.lastSequence = some p.sequence then e.heard now
  else { e.heard now with lastSequence := some p.sequence, weighing := some p.weighing, receiving := some p.receiving }

/-- A new entry from a pass notice: the three optional fields absent (R49). -/
def newRosterEntry (loader : Nat) (now : PartTime) : RosterEntry := ⟨loader, .live, now, none, none, none, none⟩

/-- The LOST entry a newcomer replaces: the oldest by last heard (R54). -/
def replacedLoader (roster : List RosterEntry) (now : PartTime) : Option Nat :=
  oldestOf now ((roster.filter fun e => e.state == .lost).map fun e => (e.loader, e.lastHeard))

/-- A loader heard through a frame: its entry, or a new one, is changed by f; a full roster replaces a LOST entry or
leaves the newcomer out (R48, R49, R54). The replaced entry's removal and the newcomer's entry are one change, with no
text handed between them, which R54 leaves open (DESIGN CHOICE, log entry 13). -/
def rosterTake (roster : List RosterEntry) (loader : Nat) (now : PartTime) (f : RosterEntry → RosterEntry) :
    List RosterEntry :=
  match rosterFind roster loader with
  | some _ => rosterUpdate roster loader f
  | none =>
    if roster.length < 12 then roster ++ [f (newRosterEntry loader now)]
    else
      match replacedLoader roster now with
      | none => roster
      | some old => rosterRemove roster old ++ [f (newRosterEntry loader now)]

/-- A loader beacon part dispatched to the roster; a sender outside 1..60 is left aside (R48, R50). -/
def State.rosterPart (s : State) (loader : Nat) (p : PartFacts) : State :=
  if isStation loader then { s with roster := rosterTake s.roster loader s.partTime (·.takePart s.partTime p) } else s

/-- A pass notice dispatched to the roster (R49, R50). -/
def State.rosterNotice (s : State) (loader : Nat) : State :=
  if isStation loader then { s with roster := rosterTake s.roster loader s.partTime (·.heard s.partTime) } else s

/-- ROSTER_QUIET_EXPIRY (R51). -/
def execRosterQuietExpiry (loader : Nat) (s : State) : Host.Outcome State Fault Refusal :=
  if s.rosterQuietDue loader then
    Taken { s with roster := rosterUpdate s.roster loader fun e => { e with state := .quiet } }.settle
  else Taken s

/-- ROSTER_LOST_EXPIRY (R52). -/
def execRosterLostExpiry (loader : Nat) (s : State) : Host.Outcome State Fault Refusal :=
  if s.rosterLostDue loader then
    Taken { s with roster := rosterUpdate s.roster loader fun e =>
      { e with state := .lost, lostSince := some s.partTime } }.settle
  else Taken s

/-- ROSTER_REMOVAL_EXPIRY (R53): no closure starts and no record is touched. -/
def execRosterRemovalExpiry (loader : Nat) (s : State) : Host.Outcome State Fault Refusal :=
  if s.rosterRemovalDue loader then Taken { s with roster := rosterRemove s.roster loader }.settle else Taken s

end Sys2Proof.Machine
end

