-- ==== Sys2Proof/Machine/Transmit.lean ====
section
/-! DEFINITION. The link port's transmitter and receive FIFO: handing over, characters sent, CS_IN, stall, characters
received (chapter 8.2, 8.3, 8.6, 8.7). -/

namespace Sys2Proof.Machine

/-! ## Receive FIFO -/

/-- A byte stored at the tail with its marks, or lost when 64 are held (R137); the 48th byte makes RDY_OUT inactive
(R138). -/
def LinkPort.store (l : LinkPort) (b : Byte) (gap ownSend : Bool) : LinkPort :=
  if l.fifo.length < 64 then
    { l with
      fifo := l.fifo ++ [⟨b, gap, l.lossPending, ownSend⟩]
      lossPending := false
      rdyOut := if l.fifo.length + 1 = 48 then false else l.rdyOut }
  else { l with lossPending := true }

/-- A byte that arrives now (R136, R137). -/
def State.receiveByte (s : State) (b : Byte) (ownSend : Bool) : State :=
  { s with link := { s.link.store b (s.gapSince s.link.lastArrival) ownSend with lastArrival := some s.now } }

/-- CHARACTER_RECEIVED (R136, R137): a character whose first bit time is no start bit is none, and after a framing
error the line must have been at rest before a start bit is taken. -/
def execCharacterReceived (character : LineCharacter) (s : State) : Host.Outcome State Fault Refusal :=
  if s.link.receiveEnable then
    let d := decodeCharacter s.settings.rxdInverted character
    if !d.startBit || (s.link.awaitRest && !d.restBefore) then Taken s
    else if d.stopBit then
      let s := s.receiveByte d.byte s.link.onLine.isSome
      Taken { s with link := { s.link with awaitRest := false } }
    else Taken { s with link := { s.link with lossPending := true, lastArrival := some s.now, awaitRest := true } }
  else Taken s

/-! ## Transmitter -/

/-- The next character falls due: it starts when CS_IN is active, else the frame is HELD and the stall timer starts
(R148, R149). -/
def LinkPort.characterDue (l : LinkPort) (now : Instant) (csIn : Bool) : LinkPort :=
  if csIn then { l with transmitter := .sending, charStart := some now, stallTimer := none }
  else { l with transmitter := .held, charStart := none, stallTimer := some ⟨now.ms, 500⟩ }

/-- A frame handed to the transmitter: checked, stuffed, its first character due at once (R148). -/
def LinkPort.beginFrame (l : LinkPort) (body : List Byte) (now : Instant) (csIn : Bool) : LinkPort :=
  { l with onLine := some ⟨lineCharacters body, 0⟩ }.characterDue now csIn

/-- No frame on the line. -/
def LinkPort.lineFree (l : LinkPort) : LinkPort :=
  { l with transmitter := .idle, onLine := none, charStart := none, stallTimer := none }

/-- CS_IN as it is read now: it may have fallen since it last became active (R149, log entry 7). -/
def State.readCsIn (s : State) (fell : Bool) : State :=
  { s with pins := { s.pins with csIn := s.pins.csIn && !fell } }

/-- The next test frame handed to the transmitter in loopback, where every due character starts at once (R178, R152). -/
def State.handTestFrame (s : State) (n : Nat) : State :=
  { s with
    startup := { s.startup with handed := n }
    link := s.link.beginFrame (testFrame s.settings.station n) s.now true }

/-- HOLD_OFF_EXPIRY (R129): the head frame leaves the queue for the line, and the carrier watch is paused. -/
def execHoldOffExpiry (csInFell : Bool) (s : State) : Host.Outcome State Fault Refusal :=
  if s.holdOffDue then
    match s.channel.takeHead s.settings.station with
    | none => Taken { s with channel := { s.channel with holdOff := none } }
    | some (body, channel) =>
      let s := s.readCsIn csInFell
      Taken { s with
        channel := { channel with holdOff := none, frameOnLine := true, carrierWatch := none }
        link := s.link.beginFrame body s.now s.pins.csIn }
  else Taken s

/-- CHARACTER_SENT in loopback: the character reaches the receive path, and at a frame's end the next test frame is
handed (R152, R178). -/
def State.loopedCharacterSent (s : State) (f : OnLine) : State :=
  let s := s.receiveByte (f.characters.getD f.sent 0) false
  if f.sent + 1 < f.characters.length then
    { s with link := { s.link with onLine := some ⟨f.characters, f.sent + 1⟩ }.characterDue s.now true }
  else
    let s := { s with link := s.link.lineFree }
    if s.startup.handed < 3 then s.handTestFrame (s.startup.handed + 1) else s

/-- CHARACTER_SENT to the modem: the next character falls due, or the end of the frame is reported as sent (R148,
R149, R129). -/
def State.lineCharacterSent (s : State) (f : OnLine) : State :=
  if f.sent + 1 < f.characters.length then
    { s with link := { s.link with onLine := some ⟨f.characters, f.sent + 1⟩ }.characterDue s.now s.pins.csIn }
  else { s with link := s.link.lineFree }.endOwnFrame.settle

/-- CHARACTER_SENT (R148); the level of CS_IN follows the operand whatever comes after the character (R149, log
entry 7). -/
def execCharacterSent (csInFell : Bool) (s : State) : Host.Outcome State Fault Refusal :=
  if s.characterSentDue then
    match s.link.onLine with
    | none => Taken s
    | some f =>
      let s := s.readCsIn csInFell
      if s.link.loopback then Taken (s.loopedCharacterSent f) else Taken (s.lineCharacterSent f)
  else Taken s

/-- A HELD frame is resumed where it stopped (R149). -/
def LinkPort.resume (l : LinkPort) (now : Instant) : LinkPort :=
  if l.transmitter = .held then l.characterDue now true else l

/-- A reported stall ends (R150, R133). -/
def State.endStall (s : State) : State :=
  if s.link.stallReported then
    { s with link := { s.link with stallReported := false }, channel := { s.channel with sendStall := false } }.reportChannel
  else s

/-- CS_IN_ACTIVE (R149, R150): outside LISTEN, ACTIVE and SILENT only the level changes. -/
def execCsInActive (s : State) : Host.Outcome State Fault Refusal :=
  let s := { s with pins := { s.pins with csIn := true } }
  if s.station.onFace then
    Taken { s with link := s.link.resume s.now }.endStall.settle
  else Taken s

/-- A stall reported for the first time in this CS_IN-inactive period (R150, R133). -/
def State.reportStall (s : State) : State :=
  if s.link.stallReported then s
  else
    { s with link := { s.link with stallReported := true }, channel := { s.channel with sendStall := true } }.reportChannel

/-- STALL_TIMER_EXPIRY (R150): the frame is abandoned, the stall is reported, then the end. -/
def execStallTimerExpiry (s : State) : Host.Outcome State Fault Refusal :=
  if s.stallTimerDue then Taken { s with link := s.link.lineFree }.reportStall.endOwnFrame.settle else Taken s

end Sys2Proof.Machine
end

