-- ==== Sys2Proof/Machine/Modes.lean ====
section
/-! DEFINITION. Entering the station states: SELF_TEST, LISTEN, ACTIVE, SILENT on a conflict, HALTED (chapters 3.6 and
10). -/

namespace Sys2Proof.Machine

/-- The loopback released: the transmitter IDLE, the FIFO empty, nothing pending, the assembler HUNTING with an empty
buffer (R152; the frame compared has been taken, log entry 19; the broken mark no, log entry 32). -/
def LinkPort.released (l : LinkPort) : LinkPort :=
  { l.lineFree with
    loopback := false, fifo := [], lossPending := false, lastArrival := none, awaitRest := false, assembler := .hunting,
    buffer := [], broken := false, busy := false, busySince := none, busyUnits := 0 }

/-- SELF_TEST is entered: the loopback engaged, the self-test timer started, test frame 1 handed (R152, R178). -/
def State.enterSelfTest (s : State) : State :=
  { s with
    station := .selfTest
    startup := { s.startup with selfTestTimer := s.timer 100, expected := 1 }
    link := { s.link with loopback := true } }.handTestFrame 1

/-- LISTEN is entered: the loopback released, the receiver on, RDY_OUT active, the join and scan timers started, and an
active CD_IN passed on as a carrier rise (R179, R135, R105, R151). -/
def State.enterListen (s : State) : State :=
  let s := { s with
    station := .listen
    startup := { s.startup with selfTestTimer := none, expected := 0, handed := 0, joinTimer := s.timer 3000 }
    link := { s.link.released with receiveEnable := true, rdyOut := true }
    scan := { s.scan with timer := s.timer s.settings.scanPeriod } }
  if s.pins.cdIn then s.watchCarrier else s

/-- ACTIVE is entered: a beacon is built at once and the beacon timer starts (R130, R120). -/
def State.enterActive (s : State) : State :=
  let s := { s with station := .active, startup := { s.startup with joinTimer := none } }.buildBeacon
  { s with channel := { s.channel with beaconTimer := s.timer s.settings.beaconPeriod } }

/-- HALTED is entered with its reason: the read and the self-test stop, the loopback is released (R181, R173, R178). -/
def State.enterHalted (s : State) (reason : HaltReason) : State :=
  { s with
    station := .halted
    startup := { s.startup with haltReason := some reason, read := .stopped, readTimer := none, selfTestTimer := none,
                                expected := 0, handed := 0 }
    link := s.link.released }

/-- A conflict report (R59, R131): LISTEN and ACTIVE become SILENT and the CONFLICT condition arises; SILENT stays. -/
def State.takeConflict (s : State) : State :=
  match s.station with
  | .listen =>
    { s with station := .silent, startup := { s.startup with joinTimer := none } }.report .conflict true
  | .active => { s with station := .silent, channel := s.channel.leaveActive }.report .conflict true
  | .silent => s
  | .reset => s
  | .configRead => s
  | .selfTest => s
  | .halted => s

end Sys2Proof.Machine
end

