-- ==== Sys2Proof/Machine/Receive.lean ====
section
/-! DEFINITION. The frame assembler, acceptance, dispatch and the self-test comparison (chapter 8.4, 8.5, 8.7, 10.4). -/

namespace Sys2Proof.Machine

/-! ## The assembler -/

/-- The frame in assembly is gone: an empty buffer, HUNTING (R144, R146). The broken mark becomes no with it, which no
rule says: R143 clears it at the next start character, before anything reads it (DESIGN CHOICE, log entry 32). -/
def LinkPort.discard (l : LinkPort) : LinkPort := { l with assembler := .hunting, buffer := [], broken := false }

/-- A start character begins a new frame, broken from its start when it carries the own-send mark (R143, R145). -/
def LinkPort.begin (l : LinkPort) (ownSend : Bool) : LinkPort :=
  { l with assembler := .inFrame, buffer := [], broken := ownSend }

/-- An unstuffed byte at the end of the frame buffer; a 55th byte breaks the frame (R142). -/
def LinkPort.keep (l : LinkPort) (b : Byte) : LinkPort :=
  if l.buffer.length < 54 then { l with assembler := .inFrame, buffer := l.buffer ++ [b] }
  else { l with assembler := .inFrame, broken := true }

/-- The seven checks of R146 on the frame buffer and the broken mark. -/
def frameAccepted (broken : Bool) (buffer : List Byte) : Bool :=
  let body := buffer.take (buffer.length - 2)
  match payloadLength (frameKind buffer) with
  | none => false
  | some n =>
    !broken && decide (6 ≤ buffer.length) && byteAt buffer 0 == 1 && byteAt buffer 5 == n &&
      buffer.length == 6 + n + 2 && checkBytes body == buffer.drop (buffer.length - 2)

/-- The end of a frame: its header and payload when it is accepted (R146). -/
def LinkPort.finish (l : LinkPort) : LinkPort × Option (List Byte) :=
  (l.discard, if frameAccepted l.broken l.buffer then some (l.buffer.take (l.buffer.length - 2)) else none)

/-- A byte inside a frame, by the assembler's state and its value, its marks already seen to (R142). -/
def LinkPort.treat (l : LinkPort) (b : Byte) : LinkPort × Option (List Byte) :=
  match l.assembler with
  | .hunting => (l, none)
  | .inFrame =>
    if b = endCharacter then l.finish
    else if b = escapeCharacter then ({ l with assembler := .escaped }, none)
    else (l.keep b, none)
  | .escaped =>
    if b = endCharacter then { l with broken := true }.finish
    else if b = 0xE0 ∨ b = 0xE1 ∨ b = 0xE2 then (l.keep (b ^^^ 0x10), none)
    else ({ l with assembler := .inFrame, broken := true }, none)

/-- One byte taken from the FIFO with its marks, and the frame it completes, if any (R142 to R145). -/
def LinkPort.takeByte (l : LinkPort) (x : RxByte) : LinkPort × Option (List Byte) :=
  if x.byte = startCharacter then (l.begin x.ownSend, none)
  else if l.assembler = .hunting then (l, none)
  else if x.gap then (l.discard, none)
  else { l with broken := l.broken || x.loss || x.ownSend }.treat x.byte

/-! ## Dispatch (R147) -/

/-- The items of a loader beacon part and of a pass notice (R24). -/
def partItems (f : List Byte) : List Item := (partSlots f).filterMap (slotItem (frameSender f))
def noticeItems (f : List Byte) : List Item :=
  let e := slotAt f 0
  [⟨frameSender f, frameSender f, e.truck, e.epoch, e.revision, e.passes, e.unweighed, e.mass⟩]

/-- An accepted frame handed to the receiving blocks by its kind; one that carries this station's number is a conflict
and reaches no other block. The roster takes a frame before the tally, one of the two orders R50 leaves open (R147, R58,
R50, R25, R2; log entry 13). -/
def State.dispatch (s : State) (f : List Byte) : State :=
  if frameSender f = s.settings.station then s.takeConflict
  else if frameKind f = kindTB then s.takeTruckBeacon (readTruckBeacon f)
  else if frameKind f = kindLB then
    (s.rosterPart (frameSender f) ⟨frameSequence f, partWeighing f, partReceiving f⟩).showTexts.mergeItems (partItems f)
  else (s.rosterNotice (frameSender f)).showTexts.mergeItems (noticeItems f)

/-- A frame accepted in loopback compared with the expected test frame (R178, R153). -/
def State.compareTestFrame (s : State) (f : List Byte) : State :=
  if f = testFrame s.settings.station s.startup.expected then
    if s.startup.expected = 3 then s.enterListen
    else { s with startup := { s.startup with expected := s.startup.expected + 1 } }
  else s.enterHalted .linktest

/-- Assembler busy becomes yes, for a free span within 5 ms (R139, log entry 4). -/
def State.becomeBusy (s : State) : State :=
  { s with
    link := { s.link with busy := true, busySince := some s.now, busyUnits := (Config.frameTakeUnits s.free).val }
    free := s.free + 1 }

/-- An accepted frame goes to the start-up controller in SELF_TEST and to the receiving blocks on the face (R147,
R153). -/
def State.acceptFrame (s : State) (f : List Byte) : State :=
  let s := s.becomeBusy
  if s.station = .selfTest then (s.compareTestFrame f).settle
  else if s.station.onFace then (s.dispatch f).settle
  else s

/-- The frame in assembly is discarded when the gap limit has passed with the FIFO empty (R144). -/
def State.discardOnGap (s : State) : State := if s.gapDue then { s with link := s.link.discard } else s

/-! ## Commands -/

/-- The head byte leaves the FIFO; the count falling to 16 makes RDY_OUT active while the receiver is on (R138). -/
def LinkPort.withoutHead (l : LinkPort) (rest : List RxByte) : LinkPort :=
  { l with fifo := rest, rdyOut := if l.receiveEnable ∧ rest.length = 16 then true else l.rdyOut }

/-- ASSEMBLER_TAKES_BYTE (R139, R142): a frame it accepts is dispatched; when it has caught up with the line behind
the gap limit, the frame in assembly is discarded at that moment (R144). -/
def execAssemblerTakesByte (s : State) : Host.Outcome State Fault Refusal :=
  if s.link.busy then Taken s
  else
    match s.link.fifo with
    | [] => Taken s
    | x :: rest =>
      match (s.link.withoutHead rest).takeByte x with
      | (l, none) => Taken { s with link := l }.discardOnGap
      | (l, some f) => Taken ({ s with link := l }.acceptFrame f)

/-- GAP_TIMEOUT (R144). -/
def execGapTimeout (s : State) : Host.Outcome State Fault Refusal := Taken s.discardOnGap

/-- FRAME_TAKEN_BY_BLOCKS (R139). -/
def execFrameTakenByBlocks (s : State) : Host.Outcome State Fault Refusal :=
  Taken { s with link := { s.link with busy := false, busySince := none, busyUnits := 0 } }

end Sys2Proof.Machine
end

