-- ==== Sys2Proof/Machine/Weigh.lean ====
section
/-! DEFINITION. The weigh unit: arming, captures, completion, retake, reweigh, handover, sensor fault, tare (chapter 4). -/

namespace Sys2Proof.Machine

/-- The capture accumulator empty and the delay timer stopped (R60, R71). -/
def WeighUnit.emptied (w : WeighUnit) : WeighUnit :=
  { w with highestBoom := none, delayTimer := none, forceSum := 0, accepted := 0, tilted := 0 }

/-- A unit in a state and for a purpose, with no capture in it. -/
def WeighUnit.rest (w : WeighUnit) (state : WeighState) (purpose : Option Purpose) : WeighUnit :=
  { w.emptied with state := state, purpose := purpose }

/-- A tare ends without a new zero force: request cleared, the unit in a state, TARE raised (R85, R84, R81). -/
def State.endTare (s : State) (state : WeighState) : State :=
  { s with weigh := { s.weigh.rest state none with tareRequest := none } }.raise .tare

/-! ## Phase events (R89) -/

/-- Entry to LOADED arms an IDLE unit for WEIGH (R65). -/
def State.armForWeigh (s : State) : State :=
  if s.weigh.state = .idle then
    { s with weigh := { s.weigh.rest .armed (some .weigh) with retakes := s.settings.retakes } }
  else s

/-- Leaving EMPTY ends a tare (R85). -/
def State.leaveEmpty (s : State) : State := if s.weigh.purpose = some .tare then s.endTare .idle else s

/-- Leaving LOADED without a dump discards what the unit holds for the bucket (R79). -/
def State.discardBucket (s : State) : State := { s with weigh := { s.weigh.rest .idle none with held := none } }

/-- What the unit hands over at the dump: the held mass and quality, or none and NONE (R78). -/
def WeighUnit.handover (w : WeighUnit) : HeldResult := w.held.getD ⟨none, .none⟩

/-! ## Captures -/

/-- A capture starts at a crossing, in DELAYING or at once in CAPTURING (R67); a crossing in HELD is for WEIGH (R76). -/
def WeighUnit.startCapture (w : WeighUnit) (now : PartTime) (delay : Nat) (boom : Int) : WeighUnit :=
  let purpose := w.purpose.or (some .weigh)
  if delay = 0 then { w.rest .capturing purpose with highestBoom := some boom }
  else { w.rest .delaying purpose with highestBoom := some boom, delayTimer := some ⟨now, delay⟩ }

/-- The highest boom angle raised to a scan's when that is higher (R68, R69). -/
def WeighUnit.raiseHighest (w : WeighUnit) (boom : Int) : WeighUnit :=
  { w with highestBoom := some (match w.highestBoom with
      | none => boom
      | some h => max h boom) }

/-- An abort by reversal or by a scan that is not weighable (R71): a tare ends (R85), a reweigh keeps the held result
(R77), a capture uses a retake or ends UNSTABLE (R75). -/
def State.abortCapture (s : State) : State :=
  if s.weigh.purpose = some .tare then s.endTare .idle
  else if s.weigh.held.isSome then { s with weigh := s.weigh.rest .held none }
  else if 0 < s.weigh.retakes then
    { s with weigh := { s.weigh.rest .armed (some .weigh) with retakes := s.weigh.retakes - 1 } }
  else { s with weigh := { s.weigh.rest .held none with held := some ⟨none, .unstable⟩ } }

/-- The result of a completed WEIGH capture (R72, R73). -/
def captureResult (c : Settings) (w : WeighUnit) : HeldResult :=
  if w.accepted < c.minSamples then ⟨none, if w.accepted < w.tilted then .tilted else .short⟩
  else ⟨some (captureMass c w.zeroForce w.forceSum w.accepted), if w.retakes = c.retakes then .good else .retaken⟩

/-- A completed TARE capture (R84). -/
def State.completeTare (s : State) : State :=
  let mean := captureMean s.weigh.forceSum s.weigh.accepted
  if s.weigh.accepted < s.settings.minSamples then s.endTare .idle
  else if tareAccepted s.settings mean then
    { s with weigh := { s.weigh.rest .idle none with tareRequest := none, zeroForce := mean.toNat } }
  else s.endTare .idle

/-- A capture completes: a tare, or a WEIGH capture or reweigh whose result becomes the held one (R72, R77). -/
def State.completeCapture (s : State) : State :=
  if s.weigh.purpose = some .tare then s.completeTare
  else { s with weigh := { s.weigh.rest .held none with held := some (captureResult s.settings s.weigh) } }

/-- A weighable scan below the window end in CAPTURING (R69). -/
def WeighUnit.sample (w : WeighUnit) (c : Settings) (boom : Int) (r : LoadReading) : WeighUnit :=
  if boom < c.windowStart then w
  else if r.pitch.natAbs ≤ c.pitchLimit then
    if w.accepted < 65535 then { w with forceSum := w.forceSum + netForce c r, accepted := w.accepted + 1 } else w
  else { w with tilted := min (w.tilted + 1) 65535 }

/-- A usable scan in CAPTURING: a scan that is not weighable or falls back aborts, one at the window end completes, the
others are samples (R69, R71, R72). -/
def State.scanInCapture (s : State) (boom : Int) (load : Option LoadReading) : State :=
  match load with
  | none => s.abortCapture
  | some r =>
    let s := { s with weigh := s.weigh.raiseHighest boom }
    if reversal s.weigh.highestBoom boom then s.abortCapture
    else if s.settings.windowEnd ≤ boom then s.completeCapture
    else { s with weigh := s.weigh.sample s.settings boom r }

/-- A crossing that starts a capture; without a delay the crossing scan is itself taken in CAPTURING (R67, log
entry 16). -/
def State.crossing (s : State) (boom : Int) (load : Option LoadReading) : State :=
  let s := { s with weigh := s.weigh.startCapture s.partTime s.settings.captureDelay boom }
  if s.settings.captureDelay = 0 then s.scanInCapture boom load else s

/-- A usable scan in DELAYING: the highest boom angle, then the reversal test (R68). -/
def State.scanInDelay (s : State) (boom : Int) : State :=
  let s := { s with weigh := s.weigh.raiseHighest boom }
  if reversal s.weigh.highestBoom boom then s.abortCapture else s

/-- A usable scan's values, by the unit's state (R64, R67 to R69, R76). -/
def State.usableScan (s : State) (boom : Int) (load : Option LoadReading) : State :=
  let crosses := upwardCrossing s.settings s.weigh.previousBoom boom
  match s.weigh.state with
  | .idle => s
  | .blocked => s
  | .armed => if crosses then s.crossing boom load else s
  | .held => if crosses && s.settings.policy == .latest then s.crossing boom load else s
  | .delaying => s.scanInDelay boom
  | .capturing => s.scanInCapture boom load

/-- The values of a scan at the weigh unit; the previous boom angle follows every usable scan (R63). -/
def State.weighScan (s : State) : Scan → State
  | .notUsable => if s.weigh.state = .capturing then s.abortCapture else s
  | .usable boom _ _ _ load =>
    let s := s.usableScan boom load
    { s with weigh := { s.weigh with previousBoom := some boom } }

/-! ## Sensor fault -/

/-- The fault being set puts the unit in BLOCKED and ends a tare; a held result and the retake count stay (R81). -/
def State.blockWeigh (s : State) : State :=
  if s.weigh.purpose = some .tare then s.endTare .blocked else { s with weigh := s.weigh.rest .blocked none }

/-- The fault being cleared moves the unit to HELD, ARMED or IDLE (R82). -/
def State.unblockWeigh (s : State) : State :=
  if s.weigh.state = .blocked then
    if s.weigh.held.isSome then { s with weigh := s.weigh.rest .held none }
    else if s.cycle.phase = .loaded then { s with weigh := s.weigh.rest .armed (some .weigh) }
    else { s with weigh := s.weigh.rest .idle none }
  else s

/-! ## The ZERO key and the timers -/

/-- A ZERO press: accepted in EMPTY by an IDLE unit outside HALTED, with an expiry 30 s later; else TARE (R83, R66). -/
def State.pressZero (s : State) : State :=
  if s.cycle.phase = .empty ∧ s.weigh.state = .idle ∧ s.station ≠ .halted then
    { s with weigh := { s.weigh.rest .armed (some .tare) with tareRequest := s.timer 30000 } }
  else s.raise .tare

/-- DELAY_TIMER_EXPIRY (R68). -/
def execDelayTimerExpiry (s : State) : Host.Outcome State Fault Refusal :=
  if s.delayTimerDue then Taken { s with weigh := { s.weigh with state := .capturing, delayTimer := none } } else Taken s

/-- TARE_REQUEST_EXPIRY (R85): a tare still running ends; without one only the request goes. -/
def execTareRequestExpiry (s : State) : Host.Outcome State Fault Refusal :=
  if s.tareRequestDue then
    if s.weigh.purpose = some .tare then Taken (s.endTare .idle).settle
    else Taken { s with weigh := { s.weigh with tareRequest := none } }
  else Taken s

end Sys2Proof.Machine
end

