-- ==== Sys2Proof/Machine/Cycle.lean ====
section
/-! DEFINITION. The cycle tracker: phases, the dump event, the pass list, VOID and the shift reset (chapter 5). -/

namespace Sys2Proof.Machine

/-! ## Phases (R88, R90 to R92) -/

/-- The phase a scan moves to, and what the move is: an event for the weigh unit, or the end of a dump. -/
inductive Move where
  | stay
  | dig
  | load
  | flatDig
  | dump
  | abandon
  | dumpEnd
deriving DecidableEq, Repr

/-- The move an evaluated scan makes from a phase (R90, R91, R92). -/
def phaseMove (c : Settings) (phase : Phase) (boom tilt : Int) (direction : Direction) : Move :=
  match phase with
  | .empty => if boom < c.digHeight ∧ direction = .forward then .dig else .stay
  | .digging =>
    if c.digHeight + 20 ≤ boom then (if c.carryTilt ≤ tilt then .load else .flatDig) else .stay
  | .loaded => if tilt ≤ c.dumpTilt then (if c.dumpHeight ≤ boom then .dump else .abandon) else .stay
  | .dumping => if c.carryTilt ≤ tilt ∨ boom < c.digHeight then .dumpEnd else .stay

/-- A cycle count of the shift raised by 1; counts wrap only where wrapping is stated, so at 4 294 967 295 it stays
(R91, R92; spec/00_scope.md, Numbers; log entry 17). -/
def countUp (n : Nat) : Nat := min (n + 1) 4294967295

/-- The phase changed. -/
def State.withPhase (s : State) (p : Phase) : State := { s with cycle := { s.cycle with phase := p } }

/-! ## The dump event (R93) -/

/-- A record at the tail of the pass list of at most 16 (R96). -/
def addPass (ps : List PassRecord) (p : PassRecord) : List PassRecord :=
  (if 16 ≤ ps.length then ps.drop 1 else ps) ++ [p]

/-- The number after a pass number; after 65535 it is 1 (R95). -/
def numberAfter (n : Nat) : Nat := if n < 65535 then n + 1 else 1

/-- The pass record of a dump, before the tally's answer (R94, R95). -/
def State.passRecord (s : State) (result : HeldResult) (load : Option Load) : PassRecord where
  number := s.cycle.nextNumber
  shiftTime := elapsed s.partTime s.cycle.shiftStart / 1000
  dumpedAt := s.partTime
  mass := result.mass
  quality := result.quality
  fill := s.fill result.mass
  material := s.panel.material
  load := load
  voided := false

/-- UNWEIGHED is raised by a pass without a mass (R97). -/
def State.raiseUnweighed (s : State) (mass : Option Nat) : State := if mass.isNone then s.raise .unweighed else s

/-- The fields that the credit of a dump may change before the pass is recorded: the alert line and the tally's (R42,
R46). The pass fields follow the new pass, at the end (R93). -/
def creditFields : List Nat := [1, 6, 7, 8, 9, 12]

/-- The dump event, in the order of R93: receiving truck, handover, numbering, credit, record, UNWEIGHED, open dump. -/
def State.dump (s : State) : State :=
  let receiving := s.trucks.receivingLoad
  let result := s.weigh.handover
  let s := s.discardBucket
  let (credited, answer) := s.credit result.mass receiving
  let cycle := { s.cycle with
    phase := .dumping
    openDump := true
    passes := addPass s.cycle.passes (s.passRecord result answer)
    nextNumber := numberAfter s.cycle.nextNumber }
  ({ credited.hand creditFields with cycle := cycle }.raiseUnweighed result.mass).hand [1]

/-- The end of DUMPING counts a cycle when the dump is open (R92). -/
def State.endDump (s : State) : State :=
  if s.cycle.openDump then
    { s with cycle := { s.cycle with phase := .empty, openDump := false, cycles := countUp s.cycle.cycles } }
  else s.withPhase .empty

/-- An abandoned cycle is counted, which the cycles field shows, and then the weigh unit discards the bucket (R91, R89,
R79). -/
def State.abandonCycle (s : State) : State :=
  ({ s with cycle := { s.cycle with phase := .empty, abandoned := countUp s.cycle.abandoned } }.hand [11]).discardBucket

/-- A move carried out, its event taken by the weigh unit (R89). -/
def State.move (s : State) : Move → State
  | .stay => s
  | .dig => (s.withPhase .digging).leaveEmpty
  | .load => (s.withPhase .loaded).armForWeigh
  | .flatDig => s.withPhase .empty
  | .dump => s.dump
  | .abandon => s.abandonCycle
  | .dumpEnd => s.endDump

/-- A scan at the cycle tracker: evaluated when usable, with the fault flag clear and the park brake released (R88). -/
def State.cycleScan (s : State) : Scan → State
  | .notUsable => s
  | .usable boom tilt direction brakeApplied _ =>
    if s.scan.fault || brakeApplied then s else s.move (phaseMove s.settings s.cycle.phase boom tilt direction)

/-! ## VOID and SHIFT -/

/-- The newest record whose voided mark is no (R99). -/
def newestUnvoided (ps : List PassRecord) : Option PassRecord := ps.reverse.find? (!·.voided)

/-- A list, newest first, with its first unvoided record marked. -/
def markFirst : List PassRecord → List PassRecord
  | [] => []
  | p :: ps => if p.voided then p :: markFirst ps else { p with voided := true } :: ps

/-- The pass list with its newest unvoided record marked voided (R100). -/
def voidNewest (ps : List PassRecord) : List PassRecord := (markFirst ps.reverse).reverse

/-- A VOID press (R99, R100): a void taken changes the tally's texts, then the pass is marked. -/
def State.pressVoid (s : State) : State :=
  match newestUnvoided s.cycle.passes with
  | none => s
  | some p =>
    if elapsed s.partTime p.dumpedAt < 60000 ∧ s.station ≠ .halted then
      match s.voidClaim p.mass p.load with
      | (_, false) => s
      | (taken, true) =>
        { taken.showTexts with cycle := { taken.cycle with passes := voidNewest taken.cycle.passes } }
    else s

/-- The shift reset of the cycle tracker, then of the tally (R102, R46). Their texts are handed together behind both, in
the order of R102, since the tracker's fields come before the tally's in field order (log entry 13). -/
def State.shiftReset (s : State) : State :=
  { s with
    cycle := { s.cycle with
      passes := [], nextNumber := 1, shiftStart := s.partTime, cycles := 0, abandoned := 0, openDump := false }
    tally := s.tally.shiftReset }

end Sys2Proof.Machine
end

