-- ==== Sys2Proof/Machine/Scan.lean ====
section
/-! DEFINITION. The scan port: requests, words, block ends, timeouts, the sensor fault counts, and the order in which a
scan is handed on (chapter 6). -/

namespace Sys2Proof.Machine

/-! ## Counts and the sensor fault flag (R115, R116) -/

/-- A scan of the class usable, weighable or not (R114). -/
def Scan.isUsable : Scan → Bool
  | .notUsable => false
  | .usable _ _ _ _ _ => true

/-- The two counts after a classified scan or a skipped slot (R115). -/
def ScanPort.count (p : ScanPort) (usable : Bool) : ScanPort :=
  if usable then { p with bad := 0, good := min (p.good + 1) 10 } else { p with good := 0, bad := min (p.bad + 1) 5 }

/-- The flag after the counts have been changed (R116). -/
def ScanPort.judge (p : ScanPort) : ScanPort :=
  if !p.fault && p.bad == 5 then { p with fault := true }
  else if p.fault && p.good == 10 then { p with fault := false }
  else p

/-- The scan port's own handling: counts, flag, and the SENSOR condition reported when it has changed (R115 to R117). -/
def State.judgeScan (s : State) (usable : Bool) : State :=
  { s with scan := (s.scan.count usable).judge }.report .sensor (s.scan.count usable).judge.fault

/-- The change of the flag that a scan made, taken by the weigh unit: BLOCKED at the setting, out of it at the clearing
(R81, R82). -/
def State.takeFaultChange (s : State) (before : Bool) : State :=
  if before = s.scan.fault then s else if s.scan.fault then s.blockWeigh else s.unblockWeigh

/-- A scan that ends, and a skipped slot: the scan port's own handling, the fault change at the weigh unit, the cycle
tracker's evaluation with its phase event, the weigh unit's values, each with the texts it changes (R118, R63, log
entries 13 and 15). -/
def State.handOn (s : State) (scan : Scan) : State :=
  let judged := (s.judgeScan scan.isUsable).showTexts
  let unblocked := (judged.takeFaultChange s.scan.fault).showTexts
  ((unblocked.cycleScan scan).showTexts.weighScan scan).settle

/-! ## Words and blocks (R107 to R110) -/

/-- A new request: OPEN, no word (R107). -/
def newRequest (now : PartTime) : ScanInFlight := ⟨.opened, now, 0, []⟩

/-- A word taken while OPEN: counted up to 255, kept among the first six (R108). -/
def ScanInFlight.addWord (f : ScanInFlight) (word : BitVec 16) : ScanInFlight :=
  { f with
    wordCount := min (f.wordCount + 1) 255
    words := if f.words.length < 6 then f.words ++ [word] else f.words }

/-- The scan of an OPEN block that ends: GOOD with six words, else SHORT or LONG, which are not usable (R109, R114). -/
def ScanInFlight.outcome (f : ScanInFlight) (c : Settings) : Scan :=
  if f.wordCount = 6 then readScan c f.words else .notUsable

/-- The scan in flight replaced. -/
def State.withInFlight (s : State) (f : Option ScanInFlight) : State :=
  { s with scan := { s.scan with inFlight := f } }

/-! ## Commands -/

/-- SCAN_TIMER_EXPIRY (R105, R106): a request, or a skipped slot while a scan is in flight. -/
def execScanTimerExpiry (s : State) : Host.Outcome State Fault Refusal :=
  if s.scanTimerDue then
    let s := { s with scan := { s.scan with timer := nextPeriod s.scan.timer } }
    match s.scan.inFlight with
    | none => Taken (s.withInFlight (some (newRequest s.partTime)))
    | some _ => Taken (s.handOn .notUsable)
  else Taken s

/-- WORD_READY (R108, R111): counted while OPEN, discarded while CLOSING, stray with no scan in flight. -/
def execWordReady (word : BitVec 16) (s : State) : Host.Outcome State Fault Refusal :=
  match s.scan.inFlight with
  | none => Taken s
  | some f =>
    match f.condition with
    | .opened => Taken (s.withInFlight (some (f.addWord word)))
    | .closing => Taken s

/-- BLOCK_END (R109, R110, R111): ends an OPEN scan, closes a CLOSING one, stray with none. -/
def execBlockEnd (s : State) : Host.Outcome State Fault Refusal :=
  match s.scan.inFlight with
  | none => Taken s
  | some f =>
    match f.condition with
    | .opened => Taken ((s.withInFlight none).handOn (f.outcome s.settings))
    | .closing => Taken (s.withInFlight none)

/-- SCAN_TIMEOUT (R110): an OPEN scan ends not usable and becomes CLOSING. -/
def execScanTimeout (s : State) : Host.Outcome State Fault Refusal :=
  if s.scanTimeoutDue then
    match s.scan.inFlight with
    | none => Taken s
    | some f => Taken ((s.withInFlight (some { f with condition := .closing })).handOn .notUsable)
  else Taken s

end Sys2Proof.Machine
end

