-- ==== Sys2Proof/Machine/Panel.lean ====
section
/-! DEFINITION. The panel transfer's commands: ACCEPT, the acceptance timer, the retry pause (chapter 9.3). -/

namespace Sys2Proof.Machine

/-- Every one of the 16 fields joins the pending field set (R160). -/
def allPending (fields : List FieldCell) : List FieldCell := fields.map fun c => { c with pending := true }

/-- An accepted transfer: it ends, and display fault is cleared (R159). -/
def CabPanel.accepted (p : CabPanel) : CabPanel := { p with transfer := none, displayFault := false }

/-- A failed transfer: every field is pending and the retry pause runs (R160). -/
def CabPanel.failed (p : CabPanel) (now : PartTime) : CabPanel :=
  { p with
    transfer := none, displayFault := true, retryPause := some ⟨now, 1000⟩, fields := allPending p.fields }

/-- ACCEPT (R159): the transfer ends and the next one starts at once; with no transfer in flight it is stray. -/
def execAccept (s : State) : Host.Outcome State Fault Refusal :=
  match s.panel.transfer with
  | none => Taken s
  | some _ => Taken { s with panel := s.panel.accepted }.startTransfer

/-- ACCEPTANCE_TIMER_EXPIRY (R160). -/
def execAcceptanceTimerExpiry (s : State) : Host.Outcome State Fault Refusal :=
  if s.acceptanceDue then Taken { s with panel := s.panel.failed s.partTime } else Taken s

/-- RETRY_PAUSE_EXPIRY (R160): a transfer starts by R158. -/
def execRetryPauseExpiry (s : State) : Host.Outcome State Fault Refusal :=
  if s.retryPauseDue then Taken { s with panel := { s.panel with retryPause := none } }.startTransfer else Taken s

end Sys2Proof.Machine
end

