-- ==== Sys2Proof/Machine/Keys.lean ====
section
/-! DEFINITION. The six keys: debounce, press, release, the freeze of the alert line, the SHIFT hold (chapter 9.4 and
9.5). -/

namespace Sys2Proof.Machine

/-! ## The alert line under ACK -/

/-- The alert whose line text the alert line shows now (R169). -/
def CabPanel.lineAlert (p : CabPanel) : Frozen :=
  match p.fields[1]? with
  | none => .noneShown
  | some c =>
    match alertShown c.text with
    | none => .noneShown
    | some a => .shown a

/-- A freeze taken: the shown alert is named and every raised-in-freeze mark is cleared (R169). -/
def CabPanel.takeFreeze (p : CabPanel) : CabPanel :=
  { p with alerts := { p.alerts with
      table := { p.alerts.table with raisedInFreeze := false }
      unweighed := { p.alerts.unweighed with raisedInFreeze := false }
      tare := { p.alerts.tare with raisedInFreeze := false }
      freeze := some p.lineAlert } }

/-- What an ACK release does to the latch of a frozen event alert (R170). -/
def EventLatch.release (l : EventLatch) : EventLatch :=
  if l.raisedInFreeze then { l with raisedInFreeze := false } else ⟨false, false⟩

/-- What an ACK release does to the latch of a frozen state alert (R170). -/
def StateLatch.release (l : StateLatch) : StateLatch :=
  if l.condition then { l with acknowledged := true } else ⟨false, false, false⟩

/-- The action of an ACK release on the frozen alert (R170). -/
def Alerts.release (a : Alerts) : Frozen → Alerts
  | .noneShown => a
  | .shown (.event k) => a.setEvent k (a.eventLatch k).release
  | .shown (.state k) => a.setState k (a.stateLatch k).release

/-- A release of a dispatched ACK: the action on the frozen alert, then the freeze is removed (R170). -/
def CabPanel.releaseAck (p : CabPanel) : CabPanel :=
  match p.alerts.freeze with
  | none => p
  | some f => { p with alerts := { p.alerts.release f with freeze := none } }

/-! ## Presses and releases (R162, R163) -/

/-- The material index after a MATERIAL press (R164). -/
def nextMaterial (index count : Nat) : Nat := if index + 1 < count then index + 1 else 0

/-- A dispatched press handed on by its key; the material field takes the new name before the fill follows (R163 to
R165, R169). -/
def State.dispatchPress (s : State) : Key → State
  | .zero => s.pressZero
  | .void => s.pressVoid
  | .next => s.pressNext
  | .material =>
    { s with panel := { s.panel with material := nextMaterial s.panel.material s.settings.materials.length } }.hand [14]
  | .ack => { s with panel := s.panel.takeFreeze }
  | .shift => { s with panel := { s.panel with shiftHold := s.timer 3000 } }

/-- A key's state replaced. -/
def State.setKey (s : State) (k : Key) (state : KeyState) : State :=
  { s with panel := { s.panel with keys := s.panel.keys.set k state } }

/-- Another key is DOWN. -/
def CabPanel.otherDown (p : CabPanel) (k : Key) : Bool := allKeys.any fun j => j != k && (p.keys.get j).isDown

/-- A press taken: ignored beside another key that is DOWN, not dispatched outside LISTEN, ACTIVE and SILENT, dispatched
otherwise (R162, R163). The station state is that of the expiry, also for a key held since the start of CONFIG_READ
when LISTEN was entered within its 30 ms, which R162 and R163 leave open (DESIGN CHOICE, log entry 35). -/
def State.takePress (s : State) (k : Key) : State :=
  if s.panel.otherDown k || !s.station.onFace then s.setKey k (.down true)
  else (s.setKey k (.down false)).dispatchPress k

/-- A release taken: the key is UP, a dispatched ACK acts on the frozen alert, SHIFT stops the hold timer (R162). -/
def State.takeRelease (s : State) (k : Key) (ignored : Bool) : State :=
  let s := s.setKey k .up
  match k with
  | .ack => if ignored then s else { s with panel := s.panel.releaseAck }
  | .shift => { s with panel := { s.panel with shiftHold := none } }
  | .zero => s
  | .void => s
  | .next => s
  | .material => s

/-! ## Debounce (R162) -/

/-- The level that starts a key's debounce timer: active for a key that is UP, inactive for one that is DOWN. -/
def KeyState.startsAt (k : KeyState) : Bool := !k.isDown

/-- A key's debounce timer after a change of its input: started at the level named for its state, stopped at the
other (R162). -/
def CabPanel.debounceAt (p : CabPanel) (k : Key) (active : Bool) (now : PartTime) : CabPanel :=
  { p with debounce := p.debounce.set k (if active = (p.keys.get k).startsAt then some ⟨now, 30⟩ else none) }

/-- A key's debounce timer stopped. -/
def State.stopDebounce (s : State) (k : Key) : State :=
  { s with panel := { s.panel with debounce := s.panel.debounce.set k none } }

/-! ## Commands -/

/-- KEY_INPUT_CHANGE (R162, R171): a level that is no change does nothing, and in RESET inputs are not read. -/
def execKeyInputChange (key : Key) (active : Bool) (s : State) : Host.Outcome State Fault Refusal :=
  if s.pins.keys.get key = active then Taken s
  else
    let s := { s with pins := { s.pins with keys := s.pins.keys.set key active } }
    if s.station = .reset then Taken s
    else Taken { s with panel := s.panel.debounceAt key active s.partTime }

/-- KEY_DEBOUNCE_EXPIRY (R162): the press or the release is taken. -/
def execKeyDebounceExpiry (key : Key) (s : State) : Host.Outcome State Fault Refusal :=
  if s.debounceDue key then
    match s.panel.keys.get key with
    | .up => Taken ((s.stopDebounce key).takePress key).settle
    | .down ignored => Taken ((s.stopDebounce key).takeRelease key ignored).settle
  else Taken s

/-- SHIFT_HOLD_EXPIRY (R165, R102): the timer stops and the shift reset is reported. -/
def execShiftHoldExpiry (s : State) : Host.Outcome State Fault Refusal :=
  if s.shiftHoldDue then Taken { s with panel := { s.panel with shiftHold := none } }.shiftReset.settle else Taken s

end Sys2Proof.Machine
end

