-- ==== Sys2Proof/Machine/Validate.lean ====
section
/-! DEFINITION. Validation of the configuration image: the non-critical groups and their defaults, the critical groups,
and the values in use (chapter 10.3 and 11.2). -/

namespace Sys2Proof.Machine

/-- The value of a field or group when it passes, and its default when it fails (R175). -/
def passedOr {α : Type} (passes : Bool) (value default : α) : α := if passes then value else default

/-- A number lies in a range, both ends included. -/
def inRange (low high v : Nat) : Bool := decide (low ≤ v ∧ v ≤ high)

/-- A pair passes when its minimum is no greater than its maximum and both lie inside the channel's scale. -/
def Limits.passes (scale pair : Limits) : Bool :=
  decide (pair.low ≤ pair.high) && scale.admits pair.low && scale.admits pair.high

/-! ## Coded fields -/

def readClock : Nat → Option ClockInput
  | 0 => some .mhz3
  | 1 => some .mhz7
  | 2 => some .mhz14
  | _ => none

def readRate : Nat → LineRate
  | 0 => .baud9600
  | 1 => .baud19200
  | 2 => .baud38400
  | _ => .baud57600

def readPolicy : Nat → ReweighPolicy
  | 0 => .latest
  | _ => .first

/-- The four characters of a material name, seven bits each. -/
def readName (m : Image) (first : Nat) : Text :=
  [0, 7, 14, 21].map fun i => byteOf (imageField m (first + i) 7)

/-- Entry i of the material table. -/
def readMaterial (m : Image) (i : Nat) : Material := ⟨readName m (344 + 38 * i), imageField m (372 + 38 * i) 10⟩

/-- The counted entries. -/
def readMaterials (m : Image) : List Material := (List.range (imageField m 341 3)).map (readMaterial m)

/-! ## Non-critical groups (R175, R183, R87) -/

def boomScale : Limits := ⟨-400, 600⟩
def tiltScale : Limits := ⟨-600, 600⟩
def pressureScale : Limits := ⟨0, 5000⟩
def pitchScale : Limits := ⟨-300, 300⟩

def boomPair (m : Image) : Limits := ⟨imageSigned m 45 11, imageSigned m 56 11⟩
def tiltPair (m : Image) : Limits := ⟨imageSigned m 67 11, imageSigned m 78 11⟩
def headPair (m : Image) : Limits := ⟨imageField m 89 13, imageField m 102 13⟩
def rodPair (m : Image) : Limits := ⟨imageField m 115 13, imageField m 128 13⟩
def pitchPair (m : Image) : Limits := ⟨imageSigned m 141 10, imageSigned m 151 10⟩

def clockPasses (m : Image) : Bool := (readClock (imageField m 6 2)).isSome
def scanPeriodPasses (m : Image) : Bool := inRange 2 10 (imageField m 12 4)
def beaconPeriodPasses (m : Image) : Bool := inRange 2 8 (imageField m 16 4)
def captureDelayPasses (m : Image) : Bool := inRange 0 50 (imageField m 24 6)
def minSamplesPasses (m : Image) : Bool := inRange 4 32 (imageField m 30 6)
def pitchLimitPasses (m : Image) : Bool := inRange 1 300 (imageField m 36 9)
def rodAreaPasses (m : Image) : Bool := inRange 0 4000 (imageField m 238 12)
def bucketVolumePasses (m : Image) : Bool := inRange 1 2000 (imageField m 314 11)

/-- The cycle group: four ranges and two relations, checked together (R87). -/
def cyclePasses (m : Image) : Bool :=
  let dig := imageSigned m 161 11
  let carry := imageSigned m 172 11
  let tip := imageSigned m 183 11
  let height := imageSigned m 194 11
  boomScale.admits dig && tiltScale.admits carry && tiltScale.admits tip && boomScale.admits height &&
    decide (tip < carry) && decide (dig + 20 ≤ height)

/-- A counted entry: four characters from 0x20 to 0x7E and a density of 1 to 1000 (R183). -/
def Material.passes (e : Material) : Bool :=
  e.name.all (fun c => inRange 0x20 0x7E c.toNat) && inRange 1 1000 e.density

/-- The material group (R183). -/
def materialsPass (m : Image) : Bool :=
  inRange 1 4 (imageField m 341 3) && (readMaterials m).all Material.passes

/-- The default material table: one entry, STD and a space, density 160 (R183). -/
def defaultMaterials : List Material := [⟨textOf ['S', 'T', 'D', ' '], 160⟩]

/-- The non-critical groups, each on its own; the last is the reserved bit 23 (R175). The line rate, polarity,
retakes, reweigh policy and overload margin fields have no invalid value. -/
def nonCriticalGroups (m : Image) : List Bool :=
  [clockPasses m, scanPeriodPasses m, beaconPeriodPasses m, captureDelayPasses m, minSamplesPasses m, pitchLimitPasses m,
   boomScale.passes (boomPair m), tiltScale.passes (tiltPair m), pressureScale.passes (headPair m),
   pressureScale.passes (rodPair m), pitchScale.passes (pitchPair m), cyclePasses m, rodAreaPasses m,
   bucketVolumePasses m, materialsPass m, imageField m 23 1 == 0]

/-- One or more non-critical groups have failed: the CONFIG condition (R175). -/
def takesDefaults (m : Image) : Bool := (nonCriticalGroups m).any (!·)

/-- The values in use after the non-critical groups have been checked (R175, R183). -/
def valuesInUse (m : Image) : Settings :=
  let c := cyclePasses m
  { station := imageField m 0 6
    clock := (readClock (imageField m 6 2)).getD .mhz3
    rate := readRate (imageField m 8 2)
    txdInverted := imageField m 10 1 == 1
    rxdInverted := imageField m 11 1 == 1
    scanPeriod := passedOr (scanPeriodPasses m) (5 * imageField m 12 4) 20
    beaconPeriod := passedOr (beaconPeriodPasses m) (250 * imageField m 16 4) 1000
    retakes := imageField m 20 2
    policy := readPolicy (imageField m 22 1)
    captureDelay := passedOr (captureDelayPasses m) (10 * imageField m 24 6) 100
    minSamples := passedOr (minSamplesPasses m) (imageField m 30 6) 8
    pitchLimit := passedOr (pitchLimitPasses m) (imageField m 36 9) 60
    boom := passedOr (boomScale.passes (boomPair m)) (boomPair m) boomScale
    tilt := passedOr (tiltScale.passes (tiltPair m)) (tiltPair m) tiltScale
    head := passedOr (pressureScale.passes (headPair m)) (headPair m) pressureScale
    rod := passedOr (pressureScale.passes (rodPair m)) (rodPair m) pressureScale
    pitch := passedOr (pitchScale.passes (pitchPair m)) (pitchPair m) pitchScale
    digHeight := passedOr c (imageSigned m 161 11) 50
    carryTilt := passedOr c (imageSigned m 172 11) 150
    dumpTilt := passedOr c (imageSigned m 183 11) (-50)
    dumpHeight := passedOr c (imageSigned m 194 11) 150
    windowStart := imageSigned m 205 11
    windowWidth := imageField m 216 10
    headArea := imageField m 226 12
    rodArea := passedOr (rodAreaPasses m) (imageField m 238 12) 0
    zeroForce := imageField m 250 24
    spanForce := imageField m 274 24
    spanMass := imageField m 298 16
    bucketVolume := passedOr (bucketVolumePasses m) (imageField m 314 11) 500
    overloadMargin := imageField m 325 16
    materials := passedOr (materialsPass m) (readMaterials m) defaultMaterials }

/-! ## Critical groups (R176) -/

/-- The window geometry, against the boom limits in use (R62, R176). -/
def Settings.windowPasses (c : Settings) : Bool :=
  decide (c.windowStart % 10 = 0) && decide (c.windowWidth % 10 = 0) && decide (50 ≤ c.windowWidth) &&
    decide (c.boom.low < c.windowStart) && decide (c.windowStart + c.windowWidth ≤ c.boom.high)

/-- The critical groups: station number, head area, forces, span mass, window (R176). -/
def criticalGroups (m : Image) : List Bool :=
  let c := valuesInUse m
  [isStation c.station, inRange 1 4000 c.headArea, decide (c.zeroForce < c.spanForce), decide (1 ≤ c.spanMass),
   c.windowPasses]

/-- No critical group has failed (R177). -/
def criticalPasses (m : Image) : Bool := (criticalGroups m).all (·)

end Sys2Proof.Machine
end

