-- ==== Sys2Proof/Machine/StartUp.lean ====
section
/-! DEFINITION. The start-up controller: reset, release, the read of the configuration memory, validation, the self-test
and join timers, the wrap of part time (chapter 10). -/

namespace Sys2Proof.Machine

/-! ## Reset and release (R171) -/

/-- A low pulse on RESET shorter than 100 microseconds is filtered out (R171). -/
def resets : ResetCause → Bool
  | .powerOn => true
  | .lineLow micros => decide (100 ≤ micros)

/-- The machine held in RESET: every block at its reset values; the waiting commands, the levels the outside drives on
the input pins and the count of free values stay (R171, log entries 6 and 9). -/
def State.held (s : State) : State := { State.reset with pending := s.pending, pins := s.pins, free := s.free }

/-- Debounce timers at the start of CONFIG_READ: a key held then starts its timer (R162). -/
def heldKeys (keys : PerKey Bool) (now : PartTime) : PerKey (Option Timer) :=
  let start := fun (active : Bool) => if active then (some ⟨now, 30⟩ : Option Timer) else none
  ⟨start keys.zero, start keys.void, start keys.next, start keys.material, start keys.ack, start keys.shift⟩

/-- The reset released: part time counts from 0 and CONFIG_READ is entered with the read begun (R171, R172, R173). -/
def State.released (s : State) : State :=
  { s with
    station := .configRead
    partTime := 0
    subTime := 0
    startup := { s.startup with read := .polling, readTimer := some ⟨0, 200⟩ }
    panel := { s.panel with debounce := heldKeys s.pins.keys 0 } }

/-- DEVICE_RESET (R171). -/
def execDeviceReset (cause : ResetCause) (s : State) : Host.Outcome State Fault Refusal :=
  if resets cause then Taken s.held else Taken s

/-- RESET_RELEASE (R171): there is no release outside RESET. -/
def execResetRelease (s : State) : Host.Outcome State Fault Refusal :=
  if s.station = .reset then Taken s.released.settle else Taken s

/-- PART_TIME_WRAP (R172): after 4 294 967 295 part time is 0 and counts on; it stands still in RESET (R171). -/
def execPartTimeWrap (s : State) : Host.Outcome State Fault Refusal :=
  if s.partTime = 4294967295#32 ∧ s.station ≠ .reset then Taken { s with partTime := 0, subTime := 0 } else Taken s

/-! ## Reading and validation (R173 to R177) -/

/-- The start-up controller's values handed to their blocks, the material field set, and the CONFIG condition reported
last (R177, R175). -/
def State.handSettings (s : State) (image : Image) : State :=
  let c := valuesInUse image
  let s := { s with settings := c, weigh := { s.weigh with zeroForce := c.zeroForce } }.hand [14]
  if takesDefaults image then (s.report .config true).hand [1] else s

/-- The result of the check and the validation noted. -/
def State.withResult (s : State) (r : ImageResult) : State := { s with startup := { s.startup with result := r } }

/-- The image checked and validated: HALTED with reason CONFIG when the check disagrees or a critical group fails;
otherwise the values in use are handed over and SELF_TEST is entered (R174 to R178). -/
def State.validate (s : State) (image : Image) : State :=
  if !imageCheckAgrees image then (s.withResult .checkFailed).enterHalted .config
  else if !criticalPasses image then (s.withResult .criticalFailed).enterHalted .config
  else ((s.withResult (.valid (takesDefaults image))).handSettings image).enterSelfTest

/-- CONFIG_STATUS_BYTE (R173): bit 0 clear is ready, and the read command follows; set is busy, and the request is
repeated. Without a status request there is no status byte. -/
def execConfigStatusByte (status : Byte) (s : State) : Host.Outcome State Fault Refusal :=
  if s.station = .configRead ∧ s.startup.read = .polling ∧ status.getLsbD 0 = false then
    Taken { s with startup := { s.startup with read := .reading } }
  else Taken s

/-- CONFIG_READ_COMPLETE (R173, R174): the image is taken, the read timer stops, the image is checked. Without a read
command there is no 64th byte (log entry 10). -/
def execConfigReadComplete (image : Image) (s : State) : Host.Outcome State Fault Refusal :=
  if s.station = .configRead ∧ s.startup.read = .reading then
    let s := { s with startup := { s.startup with image := some image, read := .stopped, readTimer := none } }
    Taken (s.validate image).settle
  else Taken s

/-! ## The timers -/

/-- READ_TIMER_EXPIRY (R173): the read is abandoned and the part halts with reason CONFIG. -/
def execReadTimerExpiry (s : State) : Host.Outcome State Fault Refusal :=
  if s.readTimerDue then Taken (s.enterHalted .config).settle else Taken s

/-- SELF_TEST_TIMER_EXPIRY (R178): the part halts with reason LINKTEST. -/
def execSelfTestTimerExpiry (s : State) : Host.Outcome State Fault Refusal :=
  if s.selfTestTimerDue then Taken (s.enterHalted .linktest).settle else Taken s

/-- JOIN_TIMER_EXPIRY (R179, R130): ACTIVE is entered. -/
def execJoinTimerExpiry (s : State) : Host.Outcome State Fault Refusal :=
  if s.joinTimerDue then Taken s.enterActive.settle else Taken s

end Sys2Proof.Machine
end

