-- ==== Sys2Proof/Machine/Outputs.lean ====
section
/-! DEFINITION. The levels on the output pins and the bytes sent on the serial lines, computed from the state (R104, R135,
R136, R138, R148, R161, R171, R173). -/

namespace Sys2Proof.Machine

/-- SCN_REQ is active exactly while a scan in flight is OPEN (chapter 6.1). -/
def State.scnReq (s : State) : Bool :=
  match s.scan.inFlight with
  | none => false
  | some f => f.condition == .opened

/-- CFG_CS is active while the memory is being asked or read; between two requests it is deselected for a moment that
this model does not hold (R173; DESIGN CHOICE, log entry 24). -/
def State.cfgCs (s : State) : Bool := s.startup.read != .stopped

/-- What CFG_SO carries: the status request, or the read command and its address (R173). -/
def ConfigRead.sent : ConfigRead → List Byte
  | .stopped => []
  | .polling => [0x05]
  | .reading => [0x03, 0x00, 0x00]

/-- RDY_OUT, true for active (R138). -/
def State.rdyOutPin (s : State) : Bool := s.link.rdyOut

/-- The level TXD rests at: high in normal polarity, low when inverted (R136). -/
def State.txdRest (s : State) : Bool := !s.settings.txdInverted

/-- The ten levels TXD drives in the bit times of the character being sent, bit 0 the first; none while it rests, and
none in loopback, which holds the pin at rest (R136, R148, R149, R152). -/
def State.txdCharacter (s : State) : Option (BitVec 10) :=
  match s.link.onLine with
  | none => none
  | some f =>
    if s.link.transmitter = .sending ∧ !s.link.loopback then
      some (encodeCharacter s.settings.txdInverted (f.characters.getD f.sent 0))
    else none

/-- The nine bytes of a panel transfer: the field number, then its characters (R161). -/
def Transfer.bytes (t : Transfer) : List Byte := byteOf t.field :: t.text

/-- The eight bits of a byte, most significant first. -/
def bitsOf (b : Byte) : List Bool := [7, 6, 5, 4, 3, 2, 1, 0].map fun i => b.getLsbD i

/-- The levels of PNL_CLK and PNL_DAT, true for high. -/
structure PanelLines where
  clk : Bool
  dat : Bool
deriving DecidableEq, Repr

/-- Both lines rest low between transfers; inside one their levels change faster than this model's time (R161, log
entry 24). -/
def State.panelLines (s : State) : Option PanelLines :=
  match s.panel.transfer with
  | none => some ⟨false, false⟩
  | some _ => none

/-- What PNL_DAT carries at the 72 rising edges of PNL_CLK in the transfer in flight; nothing between transfers
(R161). -/
def State.pnlBits (s : State) : List Bool :=
  match s.panel.transfer with
  | none => []
  | some t => t.bytes.flatMap bitsOf

end Sys2Proof.Machine
end

