-- ==== Sys2Proof/Machine/Dispatch.lean ====
section
/-! DEFINITION. exec: one arm per command. -/

namespace Sys2Proof.Machine

def exec (i : Instr) (s : State) : Host.Outcome State Fault Refusal :=
  match i with
  | .deviceReset cause => Sys2Proof.Machine.execDeviceReset cause s
  | .resetRelease => Sys2Proof.Machine.execResetRelease s
  | .partTimeWrap => Sys2Proof.Machine.execPartTimeWrap s
  | .configStatusByte status => Sys2Proof.Machine.execConfigStatusByte status s
  | .configReadComplete image => Sys2Proof.Machine.execConfigReadComplete image s
  | .readTimerExpiry => Sys2Proof.Machine.execReadTimerExpiry s
  | .selfTestTimerExpiry => Sys2Proof.Machine.execSelfTestTimerExpiry s
  | .joinTimerExpiry => Sys2Proof.Machine.execJoinTimerExpiry s
  | .scanTimerExpiry => Sys2Proof.Machine.execScanTimerExpiry s
  | .wordReady word => Sys2Proof.Machine.execWordReady word s
  | .blockEnd => Sys2Proof.Machine.execBlockEnd s
  | .scanTimeout => Sys2Proof.Machine.execScanTimeout s
  | .delayTimerExpiry => Sys2Proof.Machine.execDelayTimerExpiry s
  | .tareRequestExpiry => Sys2Proof.Machine.execTareRequestExpiry s
  | .truckAgingExpiry truck => Sys2Proof.Machine.execTruckAgingExpiry truck s
  | .lostHoldEnd truck => Sys2Proof.Machine.execLostHoldEnd truck s
  | .rosterQuietExpiry loader => Sys2Proof.Machine.execRosterQuietExpiry loader s
  | .rosterLostExpiry loader => Sys2Proof.Machine.execRosterLostExpiry loader s
  | .rosterRemovalExpiry loader => Sys2Proof.Machine.execRosterRemovalExpiry loader s
  | .beaconTimerExpiry => Sys2Proof.Machine.execBeaconTimerExpiry s
  | .holdOffExpiry csInFell => Sys2Proof.Machine.execHoldOffExpiry csInFell s
  | .carrierRise => Sys2Proof.Machine.execCarrierRise s
  | .carrierFall => Sys2Proof.Machine.execCarrierFall s
  | .carrierWatchExpiry => Sys2Proof.Machine.execCarrierWatchExpiry s
  | .characterReceived character => Sys2Proof.Machine.execCharacterReceived character s
  | .assemblerTakesByte => Sys2Proof.Machine.execAssemblerTakesByte s
  | .gapTimeout => Sys2Proof.Machine.execGapTimeout s
  | .frameTakenByBlocks => Sys2Proof.Machine.execFrameTakenByBlocks s
  | .characterSent csInFell => Sys2Proof.Machine.execCharacterSent csInFell s
  | .csInActive => Sys2Proof.Machine.execCsInActive s
  | .stallTimerExpiry => Sys2Proof.Machine.execStallTimerExpiry s
  | .accept => Sys2Proof.Machine.execAccept s
  | .acceptanceTimerExpiry => Sys2Proof.Machine.execAcceptanceTimerExpiry s
  | .retryPauseExpiry => Sys2Proof.Machine.execRetryPauseExpiry s
  | .keyInputChange key active => Sys2Proof.Machine.execKeyInputChange key active s
  | .keyDebounceExpiry key => Sys2Proof.Machine.execKeyDebounceExpiry key s
  | .shiftHoldExpiry => Sys2Proof.Machine.execShiftHoldExpiry s

end Sys2Proof.Machine
end

