-- ==== Sys2Proof/Machine/Idle.lean ====
section
/-! DEFINITION. What the part does when no command waits: it takes one of its own due events, or lets time pass (log
entries 1 and 3). -/

namespace Sys2Proof.Machine

/-! ## The part's own due events -/

/-- A command, when it is due. -/
def dueIf (due : Bool) (c : Instr) : List Instr := if due then [c] else []

/-- The part's own events that are due now: expiries whose run has passed, a byte for the assembler, a frame taken, a
character sent (R172 and the rules of each event). -/
def State.dueEvents (s : State) : List Instr :=
  dueIf s.readTimerDue .readTimerExpiry ++ dueIf s.selfTestTimerDue .selfTestTimerExpiry ++
  dueIf s.joinTimerDue .joinTimerExpiry ++ dueIf s.scanTimerDue .scanTimerExpiry ++
  dueIf s.scanTimeoutDue .scanTimeout ++ dueIf s.delayTimerDue .delayTimerExpiry ++
  dueIf s.tareRequestDue .tareRequestExpiry ++
  s.trucks.entries.flatMap (fun e => dueIf (s.truckAgingDue e.truck) (.truckAgingExpiry e.truck)) ++
  s.trucks.entries.flatMap (fun e => dueIf (s.lostHoldDue e.truck) (.lostHoldEnd e.truck)) ++
  s.roster.flatMap (fun e => dueIf (s.rosterQuietDue e.loader) (.rosterQuietExpiry e.loader)) ++
  s.roster.flatMap (fun e => dueIf (s.rosterLostDue e.loader) (.rosterLostExpiry e.loader)) ++
  s.roster.flatMap (fun e => dueIf (s.rosterRemovalDue e.loader) (.rosterRemovalExpiry e.loader)) ++
  dueIf s.beaconTimerDue .beaconTimerExpiry ++ dueIf s.holdOffDue (.holdOffExpiry false) ++
  dueIf s.carrierWatchDue .carrierWatchExpiry ++ dueIf s.assemblerReady .assemblerTakesByte ++
  dueIf s.gapDue .gapTimeout ++ dueIf s.frameTakenDue .frameTakenByBlocks ++
  dueIf s.characterSentDue (.characterSent false) ++ dueIf s.stallTimerDue .stallTimerExpiry ++
  dueIf s.acceptanceDue .acceptanceTimerExpiry ++ dueIf s.retryPauseDue .retryPauseExpiry ++
  allKeys.flatMap (fun k => dueIf (s.debounceDue k) (.keyDebounceExpiry k)) ++
  dueIf s.shiftHoldDue .shiftHoldExpiry

/-! ## Time passing (R172) -/

/-- Units from now until a number of units has passed since an instant; none when they have passed, or when there is no
such instant. -/
def State.remainingUnits (s : State) (since : Option Instant) (units : Nat) : Option Nat :=
  match since with
  | none => none
  | some t => if unitsBetween s.now t < units then some (units - unitsBetween s.now t) else none

/-- The instants finer than a millisecond that time must not pass over: a character's end, the gap limit, the end of
the blocks' taking. -/
def State.fineWaits (s : State) : List Nat :=
  (if s.link.transmitter = .sending then (s.remainingUnits s.link.charStart s.rate.characterUnits).toList else []) ++
  (if s.link.assembler ≠ .hunting ∧ s.link.fifo.isEmpty
    then (s.remainingUnits s.link.lastArrival (3 * s.rate.characterUnits + 1)).toList else []) ++
  (if s.link.busy then (s.remainingUnits s.link.busySince s.link.busyUnits).toList else [])

/-- Units that pass in one idle step: to the end of the millisecond, or to a finer instant before it (log entry 1). -/
def State.idleUnits (s : State) : Nat := s.fineWaits.foldl min (unitsPerMs - s.subTime)

/-- Time passes; part time wraps at 32 bits (R172). -/
def State.advance (s : State) (units : Nat) : State :=
  { s with
    partTime := s.partTime + BitVec.ofNat 32 ((s.subTime + units) / unitsPerMs)
    subTime := (s.subTime + units) % unitsPerMs }

/-! ## The idle step -/

/-- The due event taken among several: a free choice, which uses one free value (log entry 3). -/
def State.takeDue (s : State) (first : Instr) (others : List Instr) : Host.Outcome State Fault Refusal :=
  if others.isEmpty then exec first s
  else
    let events := first :: others
    exec (events.getD (Config.dueChoice s.free % events.length) first) { s with free := s.free + 1 }

/-- The step on an empty queue: one due event, or time passes; in RESET part time stays at 0 (R171). -/
def State.idle (s : State) : Host.Outcome State Fault Refusal :=
  match s.dueEvents with
  | [] => if s.station = .reset then Taken s else Taken (s.advance s.idleUnits)
  | first :: others => s.takeDue first others

end Sys2Proof.Machine
end

