-- ==== Sys2Proof/Machine/Step.lean ====
section
/-! DEFINITION. The step: the command at the front of the queue, or the idle step. -/

namespace Sys2Proof.Machine

/-- One step: exec on the command at the front with the queue's rest, or the idle step on an empty queue. -/
def step (s : State) : Host.Outcome State Fault Refusal :=
  match s.pending with
  | [] => s.idle
  | c :: rest => exec c { s with pending := rest }

/-- No row of the table gives a command bits, so no word spells a command and the state stays (log entry 5). -/
def State.withFetchWord (s : State) (_nbits _w : Nat) : State := s

end Sys2Proof.Machine
end

