-- ==== Sys2Proof/Safety.lean ====
section
/-! DEFINITION. The invariants of the FT24 as predicates of one state, and the frame of the settling that ends a changing
command. -/

namespace Sys2Proof.Machine

/-! ## Sizes of the tables, queues and buffers -/

/-- The receive FIFO holds at most 64 bytes and the frame buffer at most 54 (R137, R142). -/
abbrev State.LinkBounded (s : State) : Prop := s.link.fifo.length ≤ 64 ∧ s.link.buffer.length ≤ 54

/-- At most 4 notices, no two for the same truck and epoch, at most 2 parts, all of one beacon (R123, R125, R126). -/
abbrev State.QueueBounded (s : State) : Prop :=
  s.channel.notices.length ≤ 4 ∧ (s.channel.notices.map fun n => (n.slot.truck, n.slot.epoch)).Nodup ∧
    s.channel.parts.length ≤ 2 ∧ ∀ p ∈ s.channel.parts, ∀ q ∈ s.channel.parts, p.sequence = q.sequence

/-- At most 16 entries, one for each truck (R1); the spot queue holds at most 3 trucks, each once, each SPOTTED_HERE and
not waiting; an entry in SPOTTED_HERE is queued or waits, and only such an entry waits; lost since is present in LOST only;
a pin names a truck in the queue (R9, R13, R15, R18). -/
abbrev TruckTable.Sound (t : TruckTable) : Prop :=
  t.entries.length ≤ 16 ∧ (t.entries.map (·.truck)).Nodup ∧ t.queue.length ≤ 3 ∧ t.queue.Nodup ∧
    (∀ n ∈ t.queue, ∃ e ∈ t.entries, e.truck = n ∧ e.state = .spottedHere ∧ e.waitingSpot = false) ∧
    (∀ e ∈ t.entries, (e.state = .spottedHere → e.waitingSpot = true ∨ e.truck ∈ t.queue) ∧
      (e.waitingSpot = true → e.state = .spottedHere) ∧ (e.lostSince.isSome = true ↔ e.state = .lost)) ∧
    (∀ n ∈ t.pin, n ∈ t.queue)

/-- At most 12 own and 36 peer records, one for each key; revision 1 to 255, passes up to 48, unweighed no greater than
passes, mass up to 65535 (R23). -/
abbrev LoadTally.Bounded (t : LoadTally) : Prop :=
  t.ownCount ≤ 12 ∧ t.peerCount ≤ 36 ∧ (t.records.map fun r => (r.contributor, r.truck, r.epoch)).Nodup ∧
    (∀ r ∈ t.records, 1 ≤ r.revision ∧ r.revision ≤ 255 ∧ r.passes ≤ 48 ∧ r.unweighed ≤ r.passes ∧ r.mass ≤ 65535) ∧ t.log.length ≤ 8

/-- Every record's truck and epoch are those of a present truck entry (R23). -/
abbrev State.RecordsOpen (s : State) : Prop :=
  ∀ r ∈ s.tally.records, ∃ e ∈ s.trucks.entries, e.truck = r.truck ∧ e.epoch = r.epoch

/-- At most 12 entries, one for each loader (R47). -/
abbrev State.RosterBounded (s : State) : Prop := s.roster.length ≤ 12 ∧ (s.roster.map (·.loader)).Nodup

/-- The roster holds no entry for this station's own number (R47, R50). -/
abbrev State.OwnNotInRoster (s : State) : Prop := ∀ e ∈ s.roster, e.loader ≠ s.settings.station

/-- At most 16 passes; the next number is 1 to 65535; open dump only in DUMPING (R86, R95, R96). -/
abbrev CycleTracker.Sound (c : CycleTracker) : Prop :=
  c.passes.length ≤ 16 ∧ 1 ≤ c.nextNumber ∧ c.nextNumber ≤ 65535 ∧ (c.openDump = true → c.phase = .dumping)

/-- The next number counts the passes since the last reset: the cycles, and the pass of an open dump (R92, R95). -/
abbrev CycleTracker.Numbered (c : CycleTracker) : Prop :=
  c.nextNumber = (c.cycles + if c.openDump then 1 else 0) % 65535 + 1

/-- Counts 0 to 5 and 0 to 10, never both above 0 (R104, R115). -/
abbrev ScanPort.Bounded (p : ScanPort) : Prop := p.bad ≤ 5 ∧ p.good ≤ 10 ∧ (p.bad = 0 ∨ p.good = 0)

/-- Sixteen fields of eight characters (R154, R156). -/
abbrev CabPanel.Shaped (p : CabPanel) : Prop := p.fields.length = 16 ∧ ∀ c ∈ p.fields, c.text.length = 8

/-! ## Modes -/

/-- Outside LISTEN, ACTIVE and SILENT the tables are empty and no scan is under way (R1, R23, R47, R104). -/
abbrev State.EmptyOffFace (s : State) : Prop :=
  s.station.onFace = false →
    s.trucks.entries = [] ∧ s.trucks.queue = [] ∧ s.trucks.pin = none ∧ s.tally.records = [] ∧ s.roster = [] ∧
      s.scan.timer = none ∧ s.scan.inFlight = none

/-- The receiver is on exactly in LISTEN, ACTIVE and SILENT, RDY_OUT is active only then, the loopback is engaged exactly
in SELF_TEST, and a frame is on the line for channel access exactly when the transmitter holds one for the modem, in
ACTIVE or SILENT only (R135, R129, R148, R152). -/
abbrev State.LinkFollowsStation (s : State) : Prop :=
  s.link.receiveEnable = s.station.onFace ∧ (s.link.rdyOut = true → s.link.receiveEnable = true) ∧
    s.link.loopback = (s.station == .selfTest) ∧
    s.channel.frameOnLine = (s.link.onLine.isSome && !s.link.loopback) ∧
    (s.channel.frameOnLine = true → s.station = .active ∨ s.station = .silent)

/-- The transmit queue holds a frame in ACTIVE only, and the beacon timer and the hold-off timer run in ACTIVE only
(R119, R131). -/
abbrev State.QueueOnlyActive (s : State) : Prop :=
  s.station ≠ .active → s.channel.notices = [] ∧ s.channel.parts = [] ∧ s.channel.beaconTimer = none ∧
    s.channel.holdOff = none

/-- The weigh unit's state, purpose, capture and held result stand together as the table of chapter 4.1 gives. -/
abbrev WeighUnit.Sound (w : WeighUnit) : Prop :=
  (w.purpose = some .tare → w.held = none) ∧
    match w.state with
    | .idle => w.purpose = none ∧ w.held = none
    | .armed => w.purpose.isSome ∧ w.held = none
    | .delaying => w.purpose.isSome ∧ w.delayTimer.isSome ∧ w.highestBoom.isSome
    | .capturing => w.purpose.isSome ∧ w.highestBoom.isSome
    | .held => w.purpose = none ∧ w.held.isSome
    | .blocked => w.purpose = none

/-- The unit is BLOCKED exactly while sensor fault is set (R61, R81, R82), a tare runs in EMPTY only, and a tare request
is present exactly while one runs (R66, R85). -/
abbrev State.WeighFollows (s : State) : Prop :=
  s.weigh.Sound ∧ (s.weigh.state = .blocked ↔ s.scan.fault = true) ∧
    (s.weigh.purpose = some .tare → s.cycle.phase = .empty) ∧
    (s.weigh.tareRequest.isSome = true ↔ s.weigh.purpose = some .tare)

/-- From SELF_TEST on, outside HALTED, the zero force in use is below the span force (R73, R84). -/
abbrev State.ZeroBelowSpan (s : State) : Prop :=
  s.station = .selfTest ∨ s.station.onFace = true → s.weigh.zeroForce < s.settings.spanForce

/-- The condition copies of SENSOR, CHANNEL, CONFLICT and CONFIG are the conditions themselves; the CONFIG condition
holds from the validation that took defaults on, and before validation there is no result (R59, R117, R133, R167, R175). -/
abbrev State.ConditionsReported (s : State) : Prop :=
  s.panel.alerts.sensor.condition = s.scan.fault ∧ s.panel.alerts.channel.condition = s.channel.condition ∧
    (s.panel.alerts.conflict.condition = true ↔ s.station = .silent) ∧
    (s.panel.alerts.config.condition = true ↔ s.startup.result = .valid true) ∧
    (s.station = .reset ∨ s.station = .configRead → s.startup.result = .notRead)

/-- The condition copy of OVERLOAD is the condition itself (R41). -/
abbrev State.OverloadReported (s : State) : Prop := s.panel.alerts.overload.condition = s.overload

/-! ## What every state between two commands satisfies -/

/-- Every field's current text is the one its supplier gives (R156). -/
abbrev State.DisplayCurrent (s : State) : Prop :=
  ∀ i, i < 16 → ((s.panel.fields[i]?).map fun c => c.text) = some (fieldText s i)

/-- Outside RESET, a pending field finds a transfer in flight or the retry pause running (R158). -/
abbrev State.TransfersRun (s : State) : Prop :=
  s.station ≠ .reset → (∃ c ∈ s.panel.fields, c.pending = true) →
    s.panel.transfer.isSome = true ∨ s.panel.retryPause.isSome = true

/-- In ACTIVE, a queued frame with no own frame on the line and CD_IN inactive finds the hold-off running (R127). -/
abbrev State.HoldOffRuns (s : State) : Prop :=
  s.station = .active → s.channel.queueEmpty = false → s.channel.frameOnLine = false → s.pins.cdIn = false →
    s.channel.holdOff.isSome = true

/-! ## The line -/

/-- A list of unmarked bytes taken one after another by the assembler: the link port after them, and the frames they
complete, in order. -/
def LinkPort.feed (l : LinkPort) : List Byte → LinkPort × List (List Byte)
  | [] => (l, [])
  | b :: bs =>
    match l.takeByte ⟨b, false, false, false⟩ with
    | (l, frame) => ((l.feed bs).1, frame.toList ++ (l.feed bs).2)

/-! ## Frames -/

/-- t is u but for the field texts, the pending set, the transfer in flight and the hold-off timer, which the handing of
texts and the settling at the end of a command may change (R127, R156, R158, log entry 13). -/
def SettledFrom (u t : State) : Prop :=
  ∃ fields transfer holdOff,
    t = { u with
      panel := { u.panel with fields := fields, transfer := transfer }, channel := { u.channel with holdOff := holdOff } }

end Sys2Proof.Machine
end

