-- ==== Sys2Proof/Certificates/Slice0/Obligations.lean ====
section
/-! DEFINITION. The statements for the provers: what each command does, what the shared operations compute, and the
invariants that every step keeps. -/

open Sys2Proof Sys2Proof.Machine Host.Outcome

/-! ## The step -/

/-- A step takes the command at the front of the queue and runs exec on it with the queue's rest. -/
def Obligations.StepTakesFrontCommand : Prop :=
  ∀ (c : Instr) (rest : List Instr) (s : State), s.pending = c :: rest → step s = exec c { s with pending := rest }

/-- Every command, in every state, answers a next state and leaves the waiting commands alone: the manual names no
command that stops the part. The model's choice (log entry 3): on an empty queue the step is that of one of the part's
own due events, which are commands of the table, and it leaves the queue empty. -/
def Obligations.EveryStepAnswersNext : Prop :=
  (∀ (c : Instr) (s : State), ∃ t, exec c s = next t ∧ t.pending = s.pending) ∧
  (∀ (s : State), s.pending = [] → s.dueEvents ≠ [] →
     ∃ c t n, c ∈ s.dueEvents ∧ step s = next t ∧ exec c { s with free := n } = next t ∧ t.pending = [])

/-- The model's choice (log entry 1): with no event due, time passes up to the end of the millisecond and nothing else
changes; part time counts on modulo 2^32 (R172), and stands at 0 in RESET (R171). PART_TIME_WRAP (R172): after 4 294
967 295 part time is 0, and nothing else changes. -/
def Obligations.PartTimeCountsAndWraps : Prop :=
  (∀ (s : State), s.pending = [] → s.dueEvents = [] →
     (s.station = .reset → step s = next s) ∧
     (s.station ≠ .reset → s.subTime < 576 →
       ∃ n, 0 < n ∧ s.subTime + n ≤ 576 ∧
         step s = next { s with
           partTime := if s.subTime + n = 576 then s.partTime + 1 else s.partTime,
           subTime := if s.subTime + n = 576 then 0 else s.subTime + n })) ∧
  (∀ (s : State), s.partTime = 4294967295#32 → s.station ≠ .reset →
     exec .partTimeWrap s = next { s with partTime := 0, subTime := 0 })

/-! ## Reset, release, part time -/

/-- What the manual states of the machine after device reset: the state and part time (R171), the empty tables (R1, R23,
R47), the log and totals (R44, R46), the weigh unit (R60), the cycle tracker (R86), the scan port (R104), channel access
(R119), the link port (R135), the cab panel unit (R154), and the panel lines at their rest (R161); CFG_CS is inactive,
since the read has not begun (R173). -/
def Obligations.ResetHoldsStatedValues : Prop :=
  State.reset.station = .reset ∧ State.reset.partTime = 0 ∧
  State.reset.trucks = ⟨[], [], none⟩ ∧ State.reset.tally = ⟨[], [], ⟨0, 0, 0, 0, 0, 0⟩⟩ ∧ State.reset.roster = [] ∧
  (State.reset.weigh.state = .idle ∧ State.reset.weigh.purpose = none ∧ State.reset.weigh.previousBoom = none ∧
    State.reset.weigh.highestBoom = none ∧ State.reset.weigh.forceSum = 0 ∧ State.reset.weigh.accepted = 0 ∧
    State.reset.weigh.tilted = 0 ∧ State.reset.weigh.retakes = 0 ∧ State.reset.weigh.held = none ∧
    State.reset.weigh.tareRequest = none ∧ State.reset.weigh.available = true) ∧
  State.reset.cycle = ⟨.empty, false, [], 1, 0, 0, 0⟩ ∧
  State.reset.scan = ⟨none, none, 0, 0, false⟩ ∧ State.reset.scnReq = false ∧ State.reset.cfgCs = false ∧
  State.reset.panelLines = some ⟨false, false⟩ ∧
  State.reset.channel = ⟨[], [], none, 0, none, false, none, false, false⟩ ∧
  (State.reset.link.receiveEnable = false ∧ State.reset.link.fifo = [] ∧ State.reset.link.lossPending = false ∧
    State.reset.link.lastArrival = none ∧ State.reset.link.rdyOut = false ∧ State.reset.link.assembler = .hunting ∧
    State.reset.link.buffer = [] ∧ State.reset.link.broken = false ∧ State.reset.link.busy = false ∧
    State.reset.link.transmitter = .idle ∧ State.reset.link.onLine = none ∧ State.reset.link.stallTimer = none ∧
    State.reset.link.stallReported = false ∧ State.reset.link.loopback = false ∧ State.reset.txdRest = true) ∧
  (State.reset.panel.fields = ([['S', 'T', 'A', 'R', 'T', 'I', 'N', 'G'], [], [], [], [],
      ['N', 'O', ' ', 'T', 'R', 'U', 'C', 'K'], ['-', '-', '-'], ['-', '-', '-'], ['-', '-', '-'], ['-', '-', '-'],
      ['-', '-'], ['0', '/', '0'], ['0', '.', '0'], ['-', '-', '-'], [], ['Q', ' ', '0']].map fun cs =>
        ⟨((cs.map fun c : Char => BitVec.ofNat 8 c.toNat) ++ List.replicate 8 0x20).take 8, true⟩) ∧
    State.reset.panel.transfer = none ∧
    State.reset.panel.displayFault = false ∧ State.reset.panel.retryPause = none ∧
    State.reset.panel.keys = .all .up ∧ State.reset.panel.debounce = .all none ∧
    State.reset.panel.shiftHold = none ∧ State.reset.panel.material = 0 ∧
    (∀ k, State.reset.panel.alerts.stateLatch k = ⟨false, false, false⟩) ∧
    (∀ k, State.reset.panel.alerts.eventLatch k = ⟨false, false⟩) ∧ State.reset.panel.alerts.freeze = none)

/-- DEVICE_RESET (R171): at power-on, and on RESET low for 100 microseconds or longer, in any state, every block takes
its reset values, which are the model's where the manual gives none (log entries 11, 12, 33, 34); a shorter pulse takes
no effect. What stays is the outside's: the waiting commands and the levels of the input pins (and the count of free
values, log entries 6 and 9). RESET_RELEASE (R171, R173, R162): part time counts from 0, CONFIG_READ is entered, the
read timer runs 200 ms and the read is open; a key held now starts its debounce timer. What SettledFrom leaves open is
the settling at the end of the command (the model's choice, log entry 13). -/
def Obligations.ResetAndRelease : Prop :=
  ((∀ (cause : ResetCause) (s : State), (cause = .powerOn ∨ ∃ n, 100 ≤ n ∧ cause = .lineLow n) →
     exec (.deviceReset cause) s = next { State.reset with pending := s.pending, pins := s.pins, free := s.free }) ∧
   (∀ (n : Nat) (s : State), n < 100 → exec (.deviceReset (.lineLow n)) s = next s)) ∧
  (∀ (s : State), s.station = .reset →
     ∃ t, exec .resetRelease s = next t ∧
       SettledFrom { s with
         station := .configRead, partTime := 0, subTime := 0,
         startup := { s.startup with read := .polling, readTimer := some ⟨0, 200⟩ },
         panel := { s.panel with debounce := t.panel.debounce } } t ∧
       ∀ k, t.panel.debounce.get k = if s.pins.keys.get k then some ⟨0, 30⟩ else none)

/-! ## Reading the configuration memory -/

/-- CONFIG_STATUS_BYTE (R173): while the status is asked for, bit 0 clear lets the read command follow, and bit 0 set
repeats the request. By the model's choice (log entry 24) CFG_CS is active all the while the memory is asked or read:
the deselection that R173 gives after each status byte is left out as timing. CFG_SO carries 0x05 as the status request,
and 0x03, 0x00, 0x00 as the read command. -/
def Obligations.StatusByteReadyOrBusy : Prop :=
  (∀ (b : Byte) (s : State), s.station = .configRead → s.startup.read = .polling →
    (b.getLsbD 0 = false → exec (.configStatusByte b) s = next { s with startup := { s.startup with read := .reading } }) ∧
    (b.getLsbD 0 = true → exec (.configStatusByte b) s = next s)) ∧
  (∀ s : State, s.cfgCs = true ↔ s.startup.read = .polling ∨ s.startup.read = .reading) ∧
  ConfigRead.polling.sent = [0x05] ∧ ConfigRead.reading.sent = [0x03, 0x00, 0x00] ∧ ConfigRead.stopped.sent = []

/-- The check of the image is that of bytes 0 to 61 against bytes 62 and 63, byte 62 high (R174). The critical groups
(R176, R62): a station number of 1 to 60, a head area of 1 to 4000, a zero force below the span force, a span mass of 1
or more, and a window whose start and width are whole degrees, at least 5.0 degrees wide, above the minimum and up to
the maximum of the boom limits in use. CONFIG_READ_COMPLETE with an image that does not pass (R174, R176): a check that
disagrees, or a critical group that fails, gives HALTED with reason CONFIG and the link port as a released loopback
leaves it (R152, R181), its busy and broken marks by log entries 19 and 32, its time marks by log entries 4 and 34, and
the two test frame numbers at 0 by log entry 33; no value is handed over and no condition is reported.
CONFIG_READ_COMPLETE with an image that passes (R174, R175, R177, R178): the read timer stops, the values in use go to
their blocks, the zero force to the weigh unit, the CONFIG condition is reported exactly when a group took its defaults,
and SELF_TEST is entered with the loopback engaged, the self-test timer at 100 ms and test frame 1 handed. An idle panel
with nothing pending sends the material field first, when its text changes (R158, R177). What SettledFrom leaves open is
the settling at the end of the command (the model's choice, log entry 13). -/
def Obligations.ImageIsCheckedAndTaken : Prop :=
  let released := fun l : LinkPort => { l with
      loopback := false, transmitter := .idle, onLine := none, charStart := none, stallTimer := none, fifo := [],
      lossPending := false, lastArrival := none, awaitRest := false, assembler := .hunting, buffer := [],
      broken := false, busy := false, busySince := none, busyUnits := 0 }
  (∀ (m : Image),
     let field := fun first width : Nat => (m.extractLsb' (512 - first - width) width).toNat
     let start := (m.extractLsb' (512 - 205 - 11) 11).toInt
     let boom := (valuesInUse m).boom
     (imageCheckAgrees m = true ↔
       crc16 ((List.range 62).map fun i => m.extractLsb' (8 * (63 - i)) 8) = m.extractLsb' 0 16) ∧
     (criticalPasses m = true ↔
       (1 ≤ field 0 6 ∧ field 0 6 ≤ 60) ∧ (1 ≤ field 226 12 ∧ field 226 12 ≤ 4000) ∧ field 250 24 < field 274 24 ∧
         1 ≤ field 298 16 ∧ start % 10 = 0 ∧ field 216 10 % 10 = 0 ∧ 50 ≤ field 216 10 ∧
         boom.low < start ∧ start + field 216 10 ≤ boom.high)) ∧
  (∀ (m : Image) (s : State), s.station = .configRead → s.startup.read = .reading →
     (imageCheckAgrees m = false ∨ criticalPasses m = false) →
       ∃ t, exec (.configReadComplete m) s = next t ∧
         SettledFrom { s with
           station := .halted,
           startup := { s.startup with
             image := some m, result := if imageCheckAgrees m then .criticalFailed else .checkFailed,
             haltReason := some .config, read := .stopped, readTimer := none, selfTestTimer := none, expected := 0,
             handed := 0 },
           link := released s.link } t) ∧
  (∀ (m : Image) (s : State), s.station = .configRead → s.startup.read = .reading →
     imageCheckAgrees m = true → criticalPasses m = true →
       ∃ t, exec (.configReadComplete m) s = next t ∧
         SettledFrom { s with
           station := .selfTest,
           startup := { s.startup with
             image := some m, result := .valid (takesDefaults m), read := .stopped, readTimer := none,
             selfTestTimer := some ⟨s.partTime, 100⟩, expected := 1, handed := 1 },
           settings := valuesInUse m,
           weigh := { s.weigh with zeroForce := (valuesInUse m).zeroForce },
           link := { s.link with
             loopback := true, onLine := some ⟨lineCharacters (testFrame (valuesInUse m).station 1), 0⟩,
             transmitter := .sending, charStart := some ⟨s.partTime, s.subTime⟩, stallTimer := none },
           panel := { s.panel with
             alerts := if takesDefaults m then { s.panel.alerts with config := s.panel.alerts.config.report true }
                       else s.panel.alerts } } t ∧
         ∀ old new : Text, s.panel.transfer = none → s.panel.retryPause = none →
           (∀ c ∈ s.panel.fields, c.pending = false) → s.panel.fields[14]? = some ⟨old, false⟩ →
           ((valuesInUse m).materials[s.panel.material]?).map (fun e => padText e.name) = some new → old ≠ new →
             t.panel.transfer = some ⟨14, new, ⟨s.partTime, 50⟩⟩)

/-- Every value in use is the image's where its group passes and its default where the group fails, and every one but
the critical ones lies in its range whatever the image holds (R87, R105, R112, R119, R164, R175, R183, and the table of
chapter 11.2, which numbers the bits from the most significant of byte 0); the CONFIG condition arises exactly when a
non-critical group fails. -/
def Obligations.ValuesInUseInRange : Prop :=
  ∀ (m : Image),
    let c := valuesInUse m
    let f := fun first width : Nat => (m.extractLsb' (512 - first - width) width).toNat
    let g := fun first width : Nat => (m.extractLsb' (512 - first - width) width).toInt
    let pair := fun (low high : Int) (p : Limits) => low ≤ p.low ∧ p.low ≤ p.high ∧ p.high ≤ high
    let cycle := (-400 ≤ g 161 11 ∧ g 161 11 ≤ 600) ∧ (-600 ≤ g 172 11 ∧ g 172 11 ≤ 600) ∧
      (-600 ≤ g 183 11 ∧ g 183 11 ≤ 600) ∧ (-400 ≤ g 194 11 ∧ g 194 11 ≤ 600) ∧
      g 183 11 < g 172 11 ∧ g 161 11 + 20 ≤ g 194 11
    let name := fun i : Nat => [0, 7, 14, 21].map fun k => BitVec.ofNat 8 (f (344 + 38 * i + k) 7)
    let counted := (List.range (f 341 3)).map fun i => (⟨name i, f (372 + 38 * i) 10⟩ : Material)
    let printable := fun e : Material => ∀ b ∈ e.name, 0x20 ≤ b.toNat ∧ b.toNat ≤ 0x7E
    let materials := (1 ≤ f 341 3 ∧ f 341 3 ≤ 4) ∧ ∀ e ∈ counted, printable e ∧ 1 ≤ e.density ∧ e.density ≤ 1000
    -- the fields that have no invalid value, and the critical ones, which R176 checks
    (c.station = f 0 6 ∧ c.rate = (match f 8 2 with
        | 0 => .baud9600
        | 1 => .baud19200
        | 2 => .baud38400
        | _ => .baud57600) ∧
      (c.txdInverted = true ↔ f 10 1 = 1) ∧ (c.rxdInverted = true ↔ f 11 1 = 1) ∧ c.retakes = f 20 2 ∧
      (c.policy = .latest ↔ f 22 1 = 0) ∧ c.windowStart = g 205 11 ∧ c.windowWidth = f 216 10 ∧ c.headArea = f 226 12 ∧
      c.zeroForce = f 250 24 ∧ c.spanForce = f 274 24 ∧ c.spanMass = f 298 16 ∧ c.overloadMargin = f 325 16) ∧
    -- each group on its own: the image's value when it passes, its default when it fails
    (c.clock = (match f 6 2 with
        | 1 => .mhz7
        | 2 => .mhz14
        | _ => .mhz3) ∧
      c.scanPeriod = (if 2 ≤ f 12 4 ∧ f 12 4 ≤ 10 then 5 * f 12 4 else 20) ∧
      c.beaconPeriod = (if 2 ≤ f 16 4 ∧ f 16 4 ≤ 8 then 250 * f 16 4 else 1000) ∧
      c.captureDelay = (if f 24 6 ≤ 50 then 10 * f 24 6 else 100) ∧
      c.minSamples = (if 4 ≤ f 30 6 ∧ f 30 6 ≤ 32 then f 30 6 else 8) ∧
      c.pitchLimit = (if 1 ≤ f 36 9 ∧ f 36 9 ≤ 300 then f 36 9 else 60) ∧
      c.boom = (if pair (-400) 600 ⟨g 45 11, g 56 11⟩ then ⟨g 45 11, g 56 11⟩ else ⟨-400, 600⟩) ∧
      c.tilt = (if pair (-600) 600 ⟨g 67 11, g 78 11⟩ then ⟨g 67 11, g 78 11⟩ else ⟨-600, 600⟩) ∧
      c.head = (if pair 0 5000 ⟨f 89 13, f 102 13⟩ then ⟨f 89 13, f 102 13⟩ else ⟨0, 5000⟩) ∧
      c.rod = (if pair 0 5000 ⟨f 115 13, f 128 13⟩ then ⟨f 115 13, f 128 13⟩ else ⟨0, 5000⟩) ∧
      c.pitch = (if pair (-300) 300 ⟨g 141 10, g 151 10⟩ then ⟨g 141 10, g 151 10⟩ else ⟨-300, 300⟩) ∧
      (cycle → c.digHeight = g 161 11 ∧ c.carryTilt = g 172 11 ∧ c.dumpTilt = g 183 11 ∧ c.dumpHeight = g 194 11) ∧
      (¬ cycle → c.digHeight = 50 ∧ c.carryTilt = 150 ∧ c.dumpTilt = -50 ∧ c.dumpHeight = 150) ∧
      c.rodArea = (if f 238 12 ≤ 4000 then f 238 12 else 0) ∧
      c.bucketVolume = (if 1 ≤ f 314 11 ∧ f 314 11 ≤ 2000 then f 314 11 else 500) ∧
      (materials → c.materials = counted) ∧ (¬ materials → c.materials = [⟨[0x53, 0x54, 0x44, 0x20], 160⟩])) ∧
    (takesDefaults m = true ↔ ¬ (f 6 2 ≠ 3 ∧ (2 ≤ f 12 4 ∧ f 12 4 ≤ 10) ∧ (2 ≤ f 16 4 ∧ f 16 4 ≤ 8) ∧ f 24 6 ≤ 50 ∧
      (4 ≤ f 30 6 ∧ f 30 6 ≤ 32) ∧ (1 ≤ f 36 9 ∧ f 36 9 ≤ 300) ∧ pair (-400) 600 ⟨g 45 11, g 56 11⟩ ∧
      pair (-600) 600 ⟨g 67 11, g 78 11⟩ ∧ pair 0 5000 ⟨f 89 13, f 102 13⟩ ∧ pair 0 5000 ⟨f 115 13, f 128 13⟩ ∧
      pair (-300) 300 ⟨g 141 10, g 151 10⟩ ∧ cycle ∧ f 238 12 ≤ 4000 ∧ (1 ≤ f 314 11 ∧ f 314 11 ≤ 2000) ∧ materials ∧
      f 23 1 = 0)) ∧
    -- so the values lie in their ranges
    (∃ k, 2 ≤ k ∧ k ≤ 10 ∧ c.scanPeriod = 5 * k) ∧ (∃ k, 2 ≤ k ∧ k ≤ 8 ∧ c.beaconPeriod = 250 * k) ∧
    (∃ k, k ≤ 50 ∧ c.captureDelay = 10 * k) ∧ 4 ≤ c.minSamples ∧ c.minSamples ≤ 32 ∧
    1 ≤ c.pitchLimit ∧ c.pitchLimit ≤ 300 ∧ c.retakes ≤ 3 ∧ c.rodArea ≤ 4000 ∧
    1 ≤ c.bucketVolume ∧ c.bucketVolume ≤ 2000 ∧ c.overloadMargin ≤ 65535 ∧
    pair (-400) 600 c.boom ∧ pair (-600) 600 c.tilt ∧ pair 0 5000 c.head ∧ pair 0 5000 c.rod ∧ pair (-300) 300 c.pitch ∧
    (-400 ≤ c.digHeight ∧ c.digHeight ≤ 600) ∧ (-600 ≤ c.carryTilt ∧ c.carryTilt ≤ 600) ∧
    (-600 ≤ c.dumpTilt ∧ c.dumpTilt ≤ 600) ∧ (-400 ≤ c.dumpHeight ∧ c.dumpHeight ≤ 600) ∧
    c.dumpTilt < c.carryTilt ∧ c.digHeight + 20 ≤ c.dumpHeight ∧
    (1 ≤ c.materials.length ∧ c.materials.length ≤ 4) ∧
    (∀ e ∈ c.materials, e.name.length = 4 ∧ printable e ∧ 1 ≤ e.density ∧ e.density ≤ 1000)

/-- READ_TIMER_EXPIRY and SELF_TEST_TIMER_EXPIRY (R173, R178, R181): the part enters HALTED with reason CONFIG or
LINKTEST, the read and the test end, the loopback is released (R152): the transmitter is IDLE, the FIFO empty, loss
pending no, last arrival absent, the assembler HUNTING with an empty buffer, and assembler busy (log entry 19) and the
broken mark (log entry 32) are no. By the model's choice the two test frame numbers are 0 outside SELF_TEST (log entry
33); the link port's time marks are those of log entries 4 and 34. JOIN_TIMER_EXPIRY (R179, R130, R120, R121): ACTIVE is
entered, a beacon is built with the next sequence, and the beacon timer starts now for one beacon period. What
SettledFrom leaves open is the settling at the end of the command (the model's choice, log entry 13). -/
def Obligations.StartUpTimersExpire : Prop :=
  let released := fun l : LinkPort => { l with
      loopback := false, transmitter := .idle, onLine := none, charStart := none, stallTimer := none, fifo := [],
      lossPending := false, lastArrival := none, awaitRest := false, assembler := .hunting, buffer := [],
      broken := false, busy := false, busySince := none, busyUnits := 0 }
  (∀ (tm : Timer) (s : State), tm.run ≤ (s.partTime - tm.start).toNat →
     (s.station = .configRead → s.startup.readTimer = some tm →
       ∃ t, exec .readTimerExpiry s = next t ∧
         SettledFrom { s with
           station := .halted,
           startup := { s.startup with
             haltReason := some .config, read := .stopped, readTimer := none, selfTestTimer := none, expected := 0,
             handed := 0 },
           link := released s.link } t) ∧
     (s.station = .selfTest → s.startup.selfTestTimer = some tm →
       ∃ t, exec .selfTestTimerExpiry s = next t ∧
         SettledFrom { s with
           station := .halted,
           startup := { s.startup with
             haltReason := some .linktest, read := .stopped, readTimer := none, selfTestTimer := none, expected := 0,
             handed := 0 },
           link := released s.link } t)) ∧
  (∀ (tm : Timer) (s : State), s.station = .listen → s.startup.joinTimer = some tm →
     tm.run ≤ (s.partTime - tm.start).toNat →
       ∃ t, exec .joinTimerExpiry s = next t ∧
         SettledFrom { s with
           station := .active,
           startup := { s.startup with joinTimer := none },
           channel := { s.channel with
             beaconSequence := s.channel.beaconSequence + 1, parts := s.beaconParts (s.channel.beaconSequence + 1),
             beaconTimer := some ⟨s.partTime, s.settings.beaconPeriod⟩ } } t)

/-! ## Scan port -/

/-- R107: a request creates an OPEN scan in flight, requested now, with no word, and SCN_REQ active; its timeout falls
8 ms after the request; and no other command than the scan timer's expiry issues one. -/
def Obligations.RequestOnlyAtScanExpiry : Prop :=
  (∀ (tm : Timer) (s : State), s.station.onFace = true → s.scan.timer = some tm →
    tm.run ≤ (s.partTime - tm.start).toNat → s.scan.inFlight = none →
      ∃ t, exec .scanTimerExpiry s = next t ∧
        t = { s with scan := { s.scan with
          timer := some ⟨tm.start + BitVec.ofNat 32 tm.run, tm.run⟩, inFlight := some ⟨.opened, s.partTime, 0, []⟩ } } ∧
        t.scnReq = true ∧
        ∀ u : State, u.scan = t.scan → (u.scanTimeoutDue = true ↔ 8 ≤ (u.partTime - s.partTime).toNat)) ∧
  (∀ s : State, s.scnReq = true ↔ ∃ f, s.scan.inFlight = some f ∧ f.condition = .opened) ∧
  (∀ (c : Instr) (s t : State), c ≠ .scanTimerExpiry → exec c s = next t → t.scnReq = true →
    s.scnReq = true ∧ t.scan.inFlight.map (·.requestedAt) = s.scan.inFlight.map (·.requestedAt))

/-- R105: the scan timer starts at the entry to LISTEN for one scan period; each expiry starts the next run where the
last one ended; no other command moves it until device reset. -/
def Obligations.ScanTimerKeepsItsSpacing : Prop :=
  (∀ s : State, s.enterListen.scan.timer = some ⟨s.partTime, s.settings.scanPeriod⟩ ∧ s.enterListen.station = .listen) ∧
  (∀ (tm : Timer) (s t : State), s.station.onFace = true → s.scan.timer = some tm →
    tm.run ≤ (s.partTime - tm.start).toNat → exec .scanTimerExpiry s = next t →
      t.scan.timer = some ⟨tm.start + BitVec.ofNat 32 tm.run, tm.run⟩) ∧
  (∀ (c : Instr) (s t : State), s.station.onFace = true → exec c s = next t → c ≠ .scanTimerExpiry →
    (∀ cause, c ≠ .deviceReset cause) → t.scan.timer = s.scan.timer)

/-- A slot skipped at SCAN_TIMER_EXPIRY and a scan ended by SCAN_TIMEOUT (R106, R110, R115, R116, R88): the bad count
rises to at most 5 and the good count is 0, and the fifth sets sensor fault; the phase, the cycle tracker and the tables
stay. With the flag unchanged the weigh unit takes a scan that is not usable. When the scan sets the flag (R81), the unit
is BLOCKED without a capture, a held result, the retake count and the zero force stay, and a tare ends with TARE.
What SettledFrom leaves open is the settling at the end of the command (the model's choice, log entry 13).
Who handles the scan first is the model's reading (log entry 15). -/
def Obligations.BadSlotsCount : Prop :=
  ∀ (f : ScanInFlight) (s : State), s.station.onFace = true → s.scan.inFlight = some f →
    let ends := fun (p : ScanPort) (t : State) =>
      let u : State := { s with scan := p, panel := s.panel.report .sensor p.fault }
      (p.fault = s.scan.fault → SettledFrom (u.weighScan .notUsable) t) ∧
      (p.fault ≠ s.scan.fault → SettledFrom { u with
        weigh := { s.weigh with
          state := .blocked, purpose := none, highestBoom := none, delayTimer := none, forceSum := 0, accepted := 0,
          tilted := 0, tareRequest := if s.weigh.purpose = some .tare then none else s.weigh.tareRequest },
        panel := if s.weigh.purpose = some .tare then u.panel.raise .tare else u.panel } t)
    let fault := s.scan.fault || min (s.scan.bad + 1) 5 == 5
    (∀ tm : Timer, s.scan.timer = some tm → tm.run ≤ (s.partTime - tm.start).toNat →
      ∃ t, exec .scanTimerExpiry s = next t ∧
        ends ⟨some ⟨tm.start + BitVec.ofNat 32 tm.run, tm.run⟩, some f, min (s.scan.bad + 1) 5, 0, fault⟩ t) ∧
    (f.condition = .opened → 8 ≤ (s.partTime - f.requestedAt).toNat →
      ∃ t, exec .scanTimeout s = next t ∧
        ends ⟨s.scan.timer, some { f with condition := .closing }, min (s.scan.bad + 1) 5, 0, fault⟩ t)

/-- WORD_READY (R108, R111): while OPEN the count rises to at most 255 and the word is kept among the first six; while
CLOSING, and with no scan in flight, nothing changes. -/
def Obligations.WordReadyCountsAndKeeps : Prop :=
  ∀ (w : BitVec 16) (s : State),
    (s.scan.inFlight = none → exec (.wordReady w) s = next s) ∧
    (∀ f, s.scan.inFlight = some f → f.condition = .closing → exec (.wordReady w) s = next s) ∧
    (∀ f, s.scan.inFlight = some f → f.condition = .opened →
      let g := { f with
        wordCount := if f.wordCount < 255 then f.wordCount + 1 else 255,
        words := if f.words.length < 6 then f.words ++ [w] else f.words }
      exec (.wordReady w) s = next { s with scan := { s.scan with inFlight := some g } })

/-- BLOCK_END (R109 to R116): an OPEN scan ends and is removed; with exactly six words and boom and tilt inside their
limits it is usable, and the good count rises, at most to 10, with a bad count of 0; else it counts as bad; the tenth
good clears sensor fault and the fifth bad sets it. A CLOSING scan is only removed, and a stray block end changes
nothing. The words of a usable scan (R112 to R114): boom and tilt in two's complement; the load reading exactly when
head, rod and pitch lie in their limits too; direction and brake from a valid status word, none and applied from any
other. What the weigh unit does first: nothing with the flag unchanged; BLOCKED when it is set, a tare ended with TARE
(R81); when it is cleared, HELD with a held result, else ARMED for WEIGH in LOADED, else IDLE, the retake count kept
(R82). The scan then reaches the cycle tracker, then the weigh unit; the order is the model's reading (log entry 15),
and what SettledFrom leaves open its choice (log entry 13). -/
def Obligations.BlockEndClassifies : Prop :=
  (∀ (c : Settings) (words : List (BitVec 16)),
    let w := fun i => words.getD i 0
    let within := fun (l : Limits) (v : Int) => l.low ≤ v ∧ v ≤ l.high
    let status := (w 5).toNat
    let valid := status < 8 ∧ status % 4 ≠ 0
    (within c.boom (w 0).toInt ∧ within c.tilt (w 1).toInt →
      readScan c words = .usable (w 0).toInt (w 1).toInt
        (if valid then (if status % 4 = 1 then .forward else if status % 4 = 2 then .neutral else .reverse) else .none)
        (decide (¬ valid ∨ 4 ≤ status))
        (if within c.head (w 2).toNat ∧ within c.rod (w 3).toNat ∧ within c.pitch (w 4).toInt
          then some ⟨(w 2).toNat, (w 3).toNat, (w 4).toInt⟩ else none)) ∧
    (¬ (within c.boom (w 0).toInt ∧ within c.tilt (w 1).toInt) → readScan c words = .notUsable)) ∧
  ∀ (s : State),
    (s.scan.inFlight = none → exec .blockEnd s = next s) ∧
    (∀ f, s.scan.inFlight = some f → f.condition = .closing →
      exec .blockEnd s = next { s with scan := { s.scan with inFlight := none } }) ∧
    (∀ f, s.scan.inFlight = some f → f.condition = .opened →
      let scan := if f.wordCount = 6 then readScan s.settings f.words else .notUsable
      let p : ScanPort :=
        if scan = .notUsable then
          ⟨s.scan.timer, none, min (s.scan.bad + 1) 5, 0, s.scan.fault || min (s.scan.bad + 1) 5 == 5⟩
        else ⟨s.scan.timer, none, 0, min (s.scan.good + 1) 10, s.scan.fault && min (s.scan.good + 1) 10 != 10⟩
      let u : State := { s with scan := p, panel := s.panel.report .sensor p.fault }
      let w := { s.weigh with
        highestBoom := none, delayTimer := none, forceSum := 0, accepted := 0, tilted := 0, purpose := none }
      let after := fun v : State => (v.cycleScan scan).weighScan scan
      ∃ t, exec .blockEnd s = next t ∧ t.scan = p ∧
        (p.fault = s.scan.fault → SettledFrom (after u) t) ∧
        (p.fault = true → s.scan.fault = false → SettledFrom (after { u with
          weigh := { w with
            state := .blocked, tareRequest := if s.weigh.purpose = some .tare then none else s.weigh.tareRequest },
          panel := if s.weigh.purpose = some .tare then u.panel.raise .tare else u.panel }) t) ∧
        (p.fault = false → s.scan.fault = true → s.weigh.state = .blocked → SettledFrom (after { u with
          weigh :=
            if s.weigh.held ≠ none then { w with state := .held }
            else if s.cycle.phase = .loaded then { w with state := .armed, purpose := some .weigh }
            else { w with state := .idle } }) t) ∧
        t.weigh.previousBoom = (if scan = .notUsable then s.weigh.previousBoom else some (f.words.getD 0 0).toInt) ∧
        (scan = .notUsable → t.cycle = s.cycle ∧ t.tally = s.tally) ∧
        t.pins = s.pins ∧ t.station = s.station ∧ t.partTime = s.partTime ∧ t.startup = s.startup ∧
        t.settings = s.settings ∧ t.trucks = s.trucks ∧ t.roster = s.roster ∧ t.link = s.link)

/-! ## Weigh unit -/

/-- DELAY_TIMER_EXPIRY (R68): the state becomes CAPTURING. TARE_REQUEST_EXPIRY (R85): a tare still running ends
without a new zero force, the request is cleared, the unit is IDLE and TARE is raised; the held result, the retake
count and the zero force stay.
What SettledFrom leaves open is the settling at the end of the command (the model's choice, log entry 13). -/
def Obligations.WeighTimersExpire : Prop :=
  (∀ (tm : Timer) (s : State), s.weigh.state = .delaying → s.weigh.delayTimer = some tm →
     tm.run ≤ (s.partTime - tm.start).toNat →
       exec .delayTimerExpiry s = next { s with weigh := { s.weigh with state := .capturing, delayTimer := none } }) ∧
  (∀ (tm : Timer) (s : State), s.weigh.tareRequest = some tm → tm.run ≤ (s.partTime - tm.start).toNat →
     s.weigh.purpose = some .tare →
       ∃ t, exec .tareRequestExpiry s = next t ∧
         SettledFrom { s with
           weigh := { s.weigh with
             state := .idle, purpose := none, highestBoom := none, delayTimer := none, forceSum := 0, accepted := 0,
             tilted := 0, tareRequest := none },
           panel := s.panel.raise .tare } t)

/-- A usable scan that crosses the window start upward starts the capture (R64, R67, R76): the previous boom angle is
below the start and the scan's is not, in ARMED, and in HELD under LATEST, where the held result stays and the reweigh
is for WEIGH. With a delay the unit is DELAYING for that delay, with an empty accumulator and the scan's boom as the
highest; without one it is CAPTURING and the crossing scan is itself taken there (log entry 16): weighable and inside
the window it is the first sample, or the first tilted one beyond the pitch limit; at or past the window end it
completes the capture with no sample, SHORT or a failed tare (R72, R84); not weighable it aborts the capture (R71, R75,
R77, R85). Without such a crossing, and in HELD under FIRST, it stays. In DELAYING a scan that does not fall back by
more than 1.0 degree raises the highest boom angle (R68). So does a weighable scan in CAPTURING below the window end
(R69, R70); inside the window and within the pitch limit its net force is added and the accepted count rises, to 65535,
where it adds nothing; beyond the limit the tilted count rises, to 65535; below the window it adds nothing. In IDLE and
BLOCKED a usable scan leaves its boom angle only, and outside CAPTURING a scan that is not usable leaves the unit as it
is. -/
def Obligations.CaptureStartsAndSamples : Prop :=
  (∀ (boom tilt : Int) (d : Direction) (b : Bool) (r : Option LoadReading) (s : State),
     let crosses := (∃ p, s.weigh.previousBoom = some p ∧ p < s.settings.windowStart) ∧ s.settings.windowStart ≤ boom
     let purpose := if s.weigh.state = .held then some .weigh else s.weigh.purpose
     ((s.weigh.state = .armed ∧ s.weigh.purpose ≠ none) ∨
         (s.weigh.state = .held ∧ s.weigh.purpose = none ∧ s.settings.policy = .latest) → crosses →
       (0 < s.settings.captureDelay →
         s.weighScan (.usable boom tilt d b r) = { s with weigh := { s.weigh with
           state := .delaying, purpose := purpose, highestBoom := some boom,
           delayTimer := some ⟨s.partTime, s.settings.captureDelay⟩,
           forceSum := 0, accepted := 0, tilted := 0, previousBoom := some boom } }) ∧
       (∀ x, s.settings.captureDelay = 0 → r = some x → boom < s.settings.windowStart + s.settings.windowWidth →
         x.pitch.natAbs ≤ s.settings.pitchLimit →
           s.weighScan (.usable boom tilt d b r) = { s with weigh := { s.weigh with
             state := .capturing, purpose := purpose, highestBoom := some boom, delayTimer := none,
             forceSum := x.head * s.settings.headArea - x.rod * s.settings.rodArea, accepted := 1, tilted := 0,
             previousBoom := some boom } }) ∧
       (∀ x, s.settings.captureDelay = 0 → r = some x → boom < s.settings.windowStart + s.settings.windowWidth →
         s.settings.pitchLimit < x.pitch.natAbs →
           s.weighScan (.usable boom tilt d b r) = { s with weigh := { s.weigh with
             state := .capturing, purpose := purpose, highestBoom := some boom, delayTimer := none, forceSum := 0,
             accepted := 0, tilted := 1, previousBoom := some boom } }) ∧
       (s.settings.captureDelay = 0 → (r = none ∨ s.settings.windowStart + s.settings.windowWidth ≤ boom) →
         0 < s.settings.minSamples →
           let ended := { s.weigh with
             highestBoom := none, delayTimer := none, forceSum := 0, accepted := 0, tilted := 0,
             previousBoom := some boom }
           (purpose = some .tare → s.weighScan (.usable boom tilt d b r) = { s with
             weigh := { ended with state := .idle, purpose := none, tareRequest := none },
             panel := s.panel.raise .tare }) ∧
           (purpose = some .weigh → r ≠ none → s.weighScan (.usable boom tilt d b r) = { s with
             weigh := { ended with state := .held, purpose := none, held := some ⟨none, .short⟩ } }) ∧
           (purpose = some .weigh → r = none → s.weigh.held ≠ none → s.weighScan (.usable boom tilt d b r) = { s with
             weigh := { ended with state := .held, purpose := none } }) ∧
           (purpose = some .weigh → r = none → s.weigh.held = none → 0 < s.weigh.retakes →
             s.weighScan (.usable boom tilt d b r) = { s with
               weigh := { ended with state := .armed, purpose := some .weigh, retakes := s.weigh.retakes - 1 } }) ∧
           (purpose = some .weigh → r = none → s.weigh.held = none → s.weigh.retakes = 0 →
             s.weighScan (.usable boom tilt d b r) = { s with
               weigh := { ended with state := .held, purpose := none, held := some ⟨none, .unstable⟩ } }))) ∧
     (s.weigh.state = .idle ∨ s.weigh.state = .blocked ∨
         ((s.weigh.state = .armed ∨ s.weigh.state = .held) ∧ ¬ crosses) ∨
         (s.weigh.state = .held ∧ s.settings.policy = .first) →
       s.weighScan (.usable boom tilt d b r) = { s with weigh := { s.weigh with previousBoom := some boom } }) ∧
     (s.weigh.state ≠ .capturing → s.weighScan .notUsable = s)) ∧
  (∀ (boom tilt h : Int) (d : Direction) (b : Bool) (r : Option LoadReading) (s : State), s.weigh.state = .delaying →
     s.weigh.highestBoom = some h → ¬ boom < h - 10 →
       s.weighScan (.usable boom tilt d b r) = { s with weigh := { s.weigh with
         highestBoom := some (max h boom), previousBoom := some boom } }) ∧
  (∀ (boom tilt h : Int) (d : Direction) (b : Bool) (r : LoadReading) (s : State), s.weigh.state = .capturing →
     s.weigh.highestBoom = some h → ¬ boom < h - 10 → boom < s.settings.windowStart + s.settings.windowWidth →
       let counted := { s.weigh with highestBoom := some (max h boom), previousBoom := some boom }
       (s.settings.windowStart ≤ boom → r.pitch.natAbs ≤ s.settings.pitchLimit → s.weigh.accepted < 65535 →
         s.weighScan (.usable boom tilt d b (some r)) = { s with weigh := { counted with
           forceSum := s.weigh.forceSum + (r.head * s.settings.headArea - r.rod * s.settings.rodArea),
           accepted := s.weigh.accepted + 1 } }) ∧
       (s.settings.windowStart ≤ boom → r.pitch.natAbs ≤ s.settings.pitchLimit → s.weigh.accepted = 65535 →
         s.weighScan (.usable boom tilt d b (some r)) = { s with weigh := counted }) ∧
       (s.settings.windowStart ≤ boom → s.settings.pitchLimit < r.pitch.natAbs →
         s.weighScan (.usable boom tilt d b (some r)) = { s with weigh := { counted with
           tilted := min (s.weigh.tilted + 1) 65535 } }) ∧
       (boom < s.settings.windowStart →
         s.weighScan (.usable boom tilt d b (some r)) = { s with weigh := counted }))

/-- An abort of a capture (R71), in CAPTURING by a scan that is not weighable, and in DELAYING or CAPTURING by a fall of
more than 1.0 degree. A WEIGH capture (R75, R77): with a result held the unit returns to HELD with it; without one a
retake is used and the unit is ARMED again; without a retake the unit is HELD with no mass, UNSTABLE. A TARE capture
(R85): it has no retakes; the unit is IDLE, the request is cleared, TARE is raised, and the retake count, the held result
and the zero force stay. -/
def Obligations.AbortUsesARetake : Prop :=
  ∀ (scan : Scan) (s : State),
    ((s.weigh.state = .capturing ∧ (scan = .notUsable ∨ ∃ boom tilt d b, scan = .usable boom tilt d b none)) ∨
      ((s.weigh.state = .delaying ∨ s.weigh.state = .capturing) ∧
        ∃ boom tilt d b r h, scan = .usable boom tilt d b r ∧ s.weigh.highestBoom = some h ∧ boom < h - 10)) →
    ∃ w panel, s.weighScan scan = { s with weigh := w, panel := panel } ∧
      (s.weigh.purpose = some .weigh →
        panel = s.panel ∧
        (∀ h, s.weigh.held = some h → w.state = .held ∧ w.purpose = none ∧ w.held = some h ∧
          w.retakes = s.weigh.retakes) ∧
        (s.weigh.held = none → 0 < s.weigh.retakes →
          w.state = .armed ∧ w.purpose = some .weigh ∧ w.retakes = s.weigh.retakes - 1 ∧ w.held = none) ∧
        (s.weigh.held = none → s.weigh.retakes = 0 →
          w.state = .held ∧ w.purpose = none ∧ w.held = some ⟨none, .unstable⟩) ∧ w.tareRequest = s.weigh.tareRequest) ∧
      (s.weigh.purpose = some .tare →
        panel = s.panel.raise .tare ∧ w.state = .idle ∧ w.purpose = none ∧ w.tareRequest = none ∧
        w.held = s.weigh.held ∧ w.retakes = s.weigh.retakes) ∧
      w.accepted = 0 ∧ w.tilted = 0 ∧ w.forceSum = 0 ∧ w.highestBoom = none ∧ w.delayTimer = none ∧
      w.zeroForce = s.weigh.zeroForce

/-- The mass of a completed capture (R73): the number n whose 10 kg units lie nearest to the exact quotient, an exact
half going up, held within 0 to 65535; and the manual's example gives 950. The fill of a mass (R80): the nearest whole
percent, an exact half going up, at most 199, of the configured bucket volume and the density of the material selected
now; absent with the mass; and the manual's example gives 107. -/
def Obligations.MassAndFillAreRounded : Prop :=
  ((∀ (c : Settings) (z count : Nat) (sum : Int), z < c.spanForce → 0 < count →
     let num := (sum - z * count) * c.spanMass
     let den := count * ((c.spanForce : Int) - z)
     let n : Int := captureMass c z sum count
     n ≤ 65535 ∧
       (0 < n → (2 * n - 1) * den ≤ 2 * num) ∧ (n < 65535 → 2 * num < (2 * n + 1) * den)) ∧
   captureMass { Settings.reset with spanForce := 1500000, spanMass := 1500 } 600000 7020000 6 = 950) ∧
  ((∀ volume density mass, 0 < volume → 0 < density →
     let n := fillPercent volume density mass
     n ≤ 199 ∧ (0 < n → (2 * n - 1) * (volume * density) ≤ 2 * (mass * 10000)) ∧
       (n < 199 → 2 * (mass * 10000) < (2 * n + 1) * (volume * density))) ∧
   fillPercent 500 180 960 = 107 ∧ (∀ s : State, s.fill none = none) ∧
   ∀ (s : State) (e : Material) (mass : Nat), s.settings.materials[s.panel.material]? = some e →
     s.fill (some mass) = some (fillPercent s.settings.bucketVolume e.density mass))

/-- The completion of a WEIGH capture (R72): fewer samples than the minimum give no mass, TILTED when more samples
were tilted than accepted and SHORT otherwise; else a mass, GOOD when no retake was used and RETAKEN otherwise. The
result is held and the unit is HELD. The end of a TARE capture with enough samples (R84): a mean, to the nearest
newton, no further than a tenth of the configured zero force from it and below the span force becomes the zero force
in use, with no alert; any other mean leaves it and raises TARE. The end of a TARE capture with fewer samples takes
no mean: the zero force stays and TARE is raised. The request is cleared and the unit IDLE in each case. -/
def Obligations.CaptureCompletes : Prop :=
  (∀ (boom tilt h : Int) (d : Direction) (b : Bool) (r : LoadReading) (s : State), s.weigh.state = .capturing →
     s.weigh.purpose = some .weigh → s.weigh.highestBoom = some h → ¬ boom < h - 10 →
     s.settings.windowStart + s.settings.windowWidth ≤ boom →
       ∃ t, s.weighScan (.usable boom tilt d b (some r)) = t ∧ t.weigh.state = .held ∧ t.weigh.purpose = none ∧
         t.weigh.zeroForce = s.weigh.zeroForce ∧
         (s.weigh.accepted < s.settings.minSamples →
           t.weigh.held = some ⟨none, if s.weigh.accepted < s.weigh.tilted then .tilted else .short⟩) ∧
         (s.settings.minSamples ≤ s.weigh.accepted →
           t.weigh.held = some ⟨some (captureMass s.settings s.weigh.zeroForce s.weigh.forceSum s.weigh.accepted),
             if s.weigh.retakes = s.settings.retakes then .good else .retaken⟩)) ∧
  (∀ (boom tilt h : Int) (d : Direction) (b : Bool) (r : LoadReading) (s : State), s.weigh.state = .capturing →
     s.weigh.purpose = some .tare → s.weigh.highestBoom = some h → ¬ boom < h - 10 →
     s.settings.windowStart + s.settings.windowWidth ≤ boom → s.settings.minSamples ≤ s.weigh.accepted →
     0 < s.weigh.accepted →
       ∃ (t : State) (mean : Int), s.weighScan (.usable boom tilt d b (some r)) = t ∧
         (2 * mean - 1) * s.weigh.accepted ≤ 2 * s.weigh.forceSum ∧
         2 * s.weigh.forceSum < (2 * mean + 1) * s.weigh.accepted ∧
         t.weigh.state = .idle ∧ t.weigh.tareRequest = none ∧ t.weigh.purpose = none ∧
         (if s.settings.zeroForce - s.settings.zeroForce / 10 ≤ mean ∧
             mean ≤ s.settings.zeroForce + s.settings.zeroForce / 10 ∧ mean < s.settings.spanForce
           then (t.weigh.zeroForce : Int) = mean ∧ t.panel = s.panel
           else t.weigh.zeroForce = s.weigh.zeroForce ∧ t.panel = s.panel.raise .tare)) ∧
  (∀ (boom tilt h : Int) (d : Direction) (b : Bool) (r : LoadReading) (s : State), s.weigh.state = .capturing →
     s.weigh.purpose = some .tare → s.weigh.highestBoom = some h → ¬ boom < h - 10 →
     s.settings.windowStart + s.settings.windowWidth ≤ boom → s.weigh.accepted < s.settings.minSamples →
       s.weighScan (.usable boom tilt d b (some r)) = { s with
         weigh := { s.weigh with
           state := .idle, purpose := none, highestBoom := none, delayTimer := none, forceSum := 0, accepted := 0,
           tilted := 0, tareRequest := none, previousBoom := some boom },
         panel := s.panel.raise .tare })

/-! ## Cycle tracker -/

/-- The moves of an evaluated scan (R88, R90 to R92): from each phase exactly the table's outcome, and none when the
fault flag is set, the park brake applied or the scan not usable. Entry to LOADED arms an IDLE weigh unit for WEIGH with
the configured retakes (R65); leaving EMPTY ends a tare with TARE (R85); a dig without a load returns to EMPTY and
changes nothing else. The end of a dump and an abandoned cycle (R91, R92, R79): a cycle is counted exactly when the dump
is open; an abandoned cycle discards the bucket, makes no pass and calls on no tally; a count at 4 294 967 295 stays
there (the model's reading, log entry 17). What SettledFrom leaves open is the handing of texts (log entry 13). -/
def Obligations.PhasesMoveAndCyclesCount : Prop :=
  (∀ (boom tilt : Int) (d : Direction) (b : Bool) (r : Option LoadReading) (s : State),
     let t := s.cycleScan (.usable boom tilt d b r)
     let g := s.settings
     (s.scan.fault = true ∨ b = true → t = s) ∧ s.cycleScan .notUsable = s ∧
     (s.scan.fault = false → b = false →
       (s.cycle.phase = .empty →
         t.cycle.phase = if boom < g.digHeight ∧ d = .forward then .digging else .empty) ∧
       (s.cycle.phase = .digging →
         t.cycle.phase = if g.digHeight + 20 ≤ boom then (if g.carryTilt ≤ tilt then .loaded else .empty) else .digging) ∧
       (s.cycle.phase = .loaded →
         t.cycle.phase = if tilt ≤ g.dumpTilt then (if g.dumpHeight ≤ boom then .dumping else .empty) else .loaded) ∧
       (s.cycle.phase = .dumping →
         t.cycle.phase = if g.carryTilt ≤ tilt ∨ boom < g.digHeight then .empty else .dumping) ∧
       (t.cycle.phase = s.cycle.phase → t = s))) ∧
  (∀ (boom tilt : Int) (r : Option LoadReading) (d : Direction) (s : State), s.scan.fault = false →
     let rested := { s.weigh with
       highestBoom := none, delayTimer := none, forceSum := 0, accepted := 0, tilted := 0 }
     (s.cycle.phase = .empty → boom < s.settings.digHeight → d = .forward →
       s.cycleScan (.usable boom tilt d false r) =
         if s.weigh.purpose = some .tare then { s with
           cycle := { s.cycle with phase := .digging }, panel := s.panel.raise .tare,
           weigh := { rested with state := .idle, purpose := none, tareRequest := none } }
         else { s with cycle := { s.cycle with phase := .digging } }) ∧
     (s.cycle.phase = .digging → s.settings.digHeight + 20 ≤ boom → s.settings.carryTilt ≤ tilt →
       s.cycleScan (.usable boom tilt d false r) =
         if s.weigh.state = .idle then { s with
           cycle := { s.cycle with phase := .loaded },
           weigh := { rested with state := .armed, purpose := some .weigh, retakes := s.settings.retakes } }
         else { s with cycle := { s.cycle with phase := .loaded } }) ∧
     (s.cycle.phase = .digging → s.settings.digHeight + 20 ≤ boom → tilt < s.settings.carryTilt →
       s.cycleScan (.usable boom tilt d false r) = { s with cycle := { s.cycle with phase := .empty } }) ∧
     (s.cycle.phase = .dumping → (s.settings.carryTilt ≤ tilt ∨ boom < s.settings.digHeight) →
       s.cycleScan (.usable boom tilt d false r) = { s with cycle := { s.cycle with
         phase := .empty, openDump := false,
         cycles := if s.cycle.openDump then min (s.cycle.cycles + 1) 4294967295 else s.cycle.cycles } }) ∧
     (s.cycle.phase = .loaded → tilt ≤ s.settings.dumpTilt → boom < s.settings.dumpHeight →
       SettledFrom { s with
         cycle := { s.cycle with phase := .empty, abandoned := min (s.cycle.abandoned + 1) 4294967295 },
         weigh := { rested with state := .idle, purpose := none, held := none } }
         (s.cycleScan (.usable boom tilt d false r))))

/-- The dump event (R91, R93 to R97): one pass joins the pass list with the next number, the mass and quality the weigh
unit held, the fill and material of now, and the load the tally answered to a credit to the receiving truck's current
epoch (R19), the pinned truck's or else the queue's head's, or to none; the list keeps the newest 16; the weigh unit is
IDLE without a capture or a held result; a pass without a mass raises UNWEIGHED. -/
def Obligations.DumpCreatesOnePass : Prop :=
  ∀ (boom tilt : Int) (r : Option LoadReading) (d : Direction) (s : State), s.scan.fault = false →
    s.cycle.phase = .loaded → tilt ≤ s.settings.dumpTilt → s.settings.dumpHeight ≤ boom → s.cycle.passes.length ≤ 16 →
      let named := (s.trucks.pin.or s.trucks.queue.head?).bind fun n => (s.trucks.find n).map fun e => ⟨n, e.epoch⟩
      let emptied : State := { s with weigh := { s.weigh with
        highestBoom := none, delayTimer := none, forceSum := 0, accepted := 0, tilted := 0, state := .idle,
        purpose := none, held := none } }
      ∃ t p result, s.cycleScan (.usable boom tilt d false r) = t ∧ result = s.weigh.held.getD ⟨none, .none⟩ ∧
        p.number = s.cycle.nextNumber ∧ p.shiftTime = (s.partTime - s.cycle.shiftStart).toNat / 1000 ∧
        p.dumpedAt = s.partTime ∧ p.mass = result.mass ∧ p.quality = result.quality ∧ p.fill = s.fill result.mass ∧
        p.material = s.panel.material ∧ p.voided = false ∧
        p.load = (emptied.credit result.mass named).2 ∧
        t.tally = (emptied.credit result.mass named).1.tally ∧
        t.channel = (emptied.credit result.mass named).1.channel ∧ t.trucks = s.trucks ∧
        t.cycle.phase = .dumping ∧ t.cycle.openDump = true ∧
        t.cycle.passes = (s.cycle.passes.drop (s.cycle.passes.length - 15)) ++ [p] ∧
        t.cycle.nextNumber = (if s.cycle.nextNumber < 65535 then s.cycle.nextNumber + 1 else 1) ∧
        t.cycle.cycles = s.cycle.cycles ∧ t.cycle.abandoned = s.cycle.abandoned ∧
        t.cycle.shiftStart = s.cycle.shiftStart ∧
        t.weigh = emptied.weigh ∧
        (result.mass = none → (t.panel.alerts.eventLatch .unweighed).latched = true) ∧
        (result.mass ≠ none → t.panel.alerts.eventLatch .unweighed = s.panel.alerts.eventLatch .unweighed)

/-! ## Keys -/

/-- A value kept per key is that key's own. The face is on in LISTEN, ACTIVE and SILENT. KEY_INPUT_CHANGE (R162, R171):
a change to the level named for the key's state starts its 30 ms debounce, a change back stops it; in RESET the input is
not read; a level that is no change does nothing. KEY_DEBOUNCE_EXPIRY of a key that is UP, ignored (R162, R163): beside
another key that is DOWN, and outside LISTEN, ACTIVE and SILENT, the key is DOWN with the ignored mark and nothing is
dispatched. What SettledFrom leaves open is the settling at the end of the command (the model's choice, log entry 13).
-/
def Obligations.KeysAreDebouncedAndIgnored : Prop :=
  (∀ (α : Type) (p : PerKey α), p.get .zero = p.zero ∧ p.get .void = p.void ∧ p.get .next = p.next ∧
     p.get .material = p.material ∧ p.get .ack = p.ack ∧ p.get .shift = p.shift ∧
     ∀ j k a, (p.set k a).get j = if j = k then a else p.get j) ∧
  (∀ st : StationState, st.onFace = true ↔ st = .listen ∨ st = .active ∨ st = .silent) ∧
  (∀ (k : Key) (a : Bool) (s : State),
     (s.pins.keys.get k = a → exec (.keyInputChange k a) s = next s) ∧
     (s.pins.keys.get k ≠ a → s.station = .reset →
       exec (.keyInputChange k a) s = next { s with pins := { s.pins with keys := s.pins.keys.set k a } }) ∧
     (s.pins.keys.get k ≠ a → s.station ≠ .reset →
       let tm : Option Timer := if a = true ↔ s.panel.keys.get k = .up then some ⟨s.partTime, 30⟩ else none
       exec (.keyInputChange k a) s = next { s with
         pins := { s.pins with keys := s.pins.keys.set k a },
         panel := { s.panel with debounce := s.panel.debounce.set k tm } })) ∧
  (∀ (k : Key) (tm : Timer) (s : State), s.panel.debounce.get k = some tm → tm.run ≤ (s.partTime - tm.start).toNat →
     s.panel.keys.get k = .up → ((∃ j, j ≠ k ∧ s.panel.keys.get j ≠ .up) ∨ s.station.onFace = false) →
       ∃ t, exec (.keyDebounceExpiry k) s = next t ∧
         SettledFrom { s with panel := { s.panel with
           debounce := s.panel.debounce.set k none, keys := s.panel.keys.set k (.down true) } } t)

/-- KEY_DEBOUNCE_EXPIRY of a key that is UP with no other key DOWN, in LISTEN, ACTIVE or SILENT (R162 to R165, R169,
R17, R83): the press is dispatched. That the station state is read at the expiry, also for a key held since CONFIG_READ,
is the model's choice (log entry 35). MATERIAL moves the index on and wraps; SHIFT starts its 3 s hold; ACK takes the
freeze, which names the alert that the line shows (EventAlertsWaitForAck says which); NEXT pins the truck after the
receiving one in the queue, the head after the tail, and OVERLOAD is evaluated; ZERO arms a tare for 30 s when EMPTY and
IDLE and raises TARE otherwise. What SettledFrom leaves open is the settling at the end of the command (the model's
choice, log entry 13). -/
def Obligations.DispatchedPressActs : Prop :=
  ∀ (k : Key) (tm : Timer) (s : State), s.panel.debounce.get k = some tm → tm.run ≤ (s.partTime - tm.start).toNat →
    s.panel.keys.get k = .up → (∀ j, j ≠ k → s.panel.keys.get j = .up) → s.station.onFace = true →
      let p := { s.panel with debounce := s.panel.debounce.set k none, keys := s.panel.keys.set k (.down false) }
      ∃ t, exec (.keyDebounceExpiry k) s = next t ∧
        (k = .material → SettledFrom { s with panel := { p with
          material := if s.panel.material + 1 < s.settings.materials.length then s.panel.material + 1 else 0 } } t) ∧
        (k = .shift → SettledFrom { s with panel := { p with shiftHold := some ⟨s.partTime, 3000⟩ } } t) ∧
        (k = .ack → SettledFrom { s with panel := { p with alerts := { s.panel.alerts with
          table := ⟨s.panel.alerts.table.latched, false⟩, unweighed := ⟨s.panel.alerts.unweighed.latched, false⟩,
          tare := ⟨s.panel.alerts.tare.latched, false⟩, freeze := some s.panel.lineAlert } } } t) ∧
        (k = .next → s.trucks.queue = [] → SettledFrom { s with panel := p } t) ∧
        (∀ before after n, k = .next → s.trucks.queue = before ++ n :: after → n ∉ before →
          s.trucks.pin.or s.trucks.queue.head? = some n →
            let u : State := { s with trucks := { s.trucks with pin := after.head?.or s.trucks.queue.head? } }
            SettledFrom { u with panel := p.report .overload u.overload } t) ∧
        (k = .zero → s.cycle.phase = .empty → s.weigh.state = .idle →
          SettledFrom { s with
            panel := p,
            weigh := { s.weigh with
              state := .armed, purpose := some .tare, highestBoom := none, delayTimer := none, forceSum := 0,
              accepted := 0, tilted := 0, tareRequest := some ⟨s.partTime, 30000⟩ } } t) ∧
        (k = .zero → (s.cycle.phase ≠ .empty ∨ s.weigh.state ≠ .idle) →
          SettledFrom { s with panel := p.raise .tare } t) ∧
        (k = .void → SettledFrom ({ s with panel := p } : State).pressVoid t ∧ t.trucks = s.trucks ∧
          t.weigh = s.weigh ∧ t.cycle.phase = s.cycle.phase ∧
          t.cycle.cycles = s.cycle.cycles ∧ t.cycle.nextNumber = s.cycle.nextNumber ∧
          t.cycle.passes.length = s.cycle.passes.length)

/-- KEY_DEBOUNCE_EXPIRY of a key that is DOWN (R162, R165, R170): the key is UP; a SHIFT release stops the hold timer; a
dispatched ACK release clears or acknowledges the frozen alert and removes the freeze.
What SettledFrom leaves open is the settling at the end of the command (the model's choice, log entry 13). -/
def Obligations.ReleaseActs : Prop :=
  ∀ (k : Key) (i : Bool) (tm : Timer) (s : State), s.panel.debounce.get k = some tm →
    tm.run ≤ (s.partTime - tm.start).toNat → s.panel.keys.get k = .down i →
      let p := { s.panel with debounce := s.panel.debounce.set k none, keys := s.panel.keys.set k .up }
      ∃ t, exec (.keyDebounceExpiry k) s = next t ∧
        (k ≠ .ack → k ≠ .shift → SettledFrom { s with panel := p } t) ∧
        (k = .shift → SettledFrom { s with panel := { p with shiftHold := none } } t) ∧
        (k = .ack → i = true → SettledFrom { s with panel := p } t) ∧
        (k = .ack → i = false → s.panel.alerts.freeze = none → SettledFrom { s with panel := p } t) ∧
        (k = .ack → i = false → s.panel.alerts.freeze = some .noneShown →
          SettledFrom { s with panel := { p with alerts := { s.panel.alerts with freeze := none } } } t) ∧
        (∀ a, k = .ack → i = false → s.panel.alerts.freeze = some (.shown (.event a)) →
          let l := s.panel.alerts.eventLatch a
          SettledFrom { s with panel := { p with alerts :=
            { s.panel.alerts.setEvent a ⟨l.latched && l.raisedInFreeze, false⟩ with freeze := none } } } t) ∧
        (∀ a, k = .ack → i = false → s.panel.alerts.freeze = some (.shown (.state a)) →
          let l := s.panel.alerts.stateLatch a
          SettledFrom { s with panel := { p with alerts :=
            { s.panel.alerts.setState a (if l.condition then { l with acknowledged := true } else ⟨false, false, false⟩)
              with freeze := none } } } t)

/-- A VOID press in LISTEN, ACTIVE or SILENT (R99, R100): the newest unvoided pass, less than 60 s old and taken by the
tally, is marked, and nothing else of the cycle tracker changes; the tally's change, the pass notice that carries it to
the face (R35) and the OVERLOAD report are those of the void claim; a pass of 60 s or more, or none, refuses the press.
-/
def Obligations.VoidMarksTheNewestPass : Prop :=
  ∀ (s : State), s.station.onFace = true →
    ((∀ p ∈ s.cycle.passes, p.voided = true) → s.pressVoid = s) ∧
    (∀ (before after : List PassRecord) (p : PassRecord), s.cycle.passes = before ++ p :: after → p.voided = false →
      (∀ q ∈ after, q.voided = true) →
        (60000 ≤ (s.partTime - p.dumpedAt).toNat → s.pressVoid = s) ∧
        ((s.partTime - p.dumpedAt).toNat < 60000 → (s.voidClaim p.mass p.load).2 = false → s.pressVoid = s) ∧
        ((s.partTime - p.dumpedAt).toNat < 60000 → (s.voidClaim p.mass p.load).2 = true →
          s.pressVoid.cycle = { s.cycle with passes := before ++ { p with voided := true } :: after } ∧
            s.pressVoid.tally = (s.voidClaim p.mass p.load).1.tally ∧
            s.pressVoid.channel = (s.voidClaim p.mass p.load).1.channel ∧
            s.pressVoid.panel.alerts = (s.voidClaim p.mass p.load).1.panel.alerts ∧ s.pressVoid.weigh = s.weigh ∧
            s.pressVoid.trucks = s.trucks))

/-- SHIFT_HOLD_EXPIRY (R165, R102, R46): the hold timer stops; the pass list is emptied, numbering starts at 1, the shift
starts now, the counts and the six totals are 0, open dump is no and the log is empty; all else stays.
What SettledFrom leaves open is the settling at the end of the command (the model's choice, log entry 13). -/
def Obligations.ShiftResetStartsAShift : Prop :=
  ∀ (i : Bool) (tm : Timer) (s : State), s.panel.keys.shift = .down i → s.panel.shiftHold = some tm →
    tm.run ≤ (s.partTime - tm.start).toNat →
      ∃ t, exec .shiftHoldExpiry s = next t ∧
        SettledFrom { s with
          cycle := { s.cycle with
            passes := [], nextNumber := 1, shiftStart := s.partTime, cycles := 0, abandoned := 0, openDump := false },
          tally := { s.tally with log := [], shift := ⟨0, 0, 0, 0, 0, 0⟩ },
          panel := { s.panel with shiftHold := none } } t

/-! ## Truck table -/

/-- TRUCK_AGING_EXPIRY (R9, R14, R18, R41): 3000 ms after last heard the entry is LOST since now, without a waiting
spot; the truck leaves the queue, its pin is cleared, the OVERLOAD condition is evaluated, and all else stays.
LOST_HOLD_END (R10): 30 s after lost since the load is closed with reason LOST and the entry removed, and OVERLOAD is
evaluated after each. The closure of a load with any reason (R21, R38, R40, R43, R44): its records leave the table; when
there was any, one closed-load entry joins the log of at most 8, with their sums, the own record's passes and mass, the
contributors with a pass, the entry's target and on-board payload, and the approximate mark of R40; a load with own
passes is counted in loads closed.
What SettledFrom leaves open is the settling at the end of the command (the model's choice, log entry 13). -/
def Obligations.SilentTruckIsLostThenClosed : Prop :=
  (∀ (n : Nat) (e : TruckEntry) (s : State), s.trucks.find n = some e → e.state ≠ .lost →
     3000 ≤ (s.partTime - e.lastHeard).toNat →
       let u : State := { s with trucks :=
         ⟨s.trucks.entries.map fun x =>
             if x.truck = n then { x with state := .lost, lostSince := some s.partTime, waitingSpot := false } else x,
           s.trucks.queue.filter (· != n), if s.trucks.pin = some n then none else s.trucks.pin⟩ }
       ∃ t, exec (.truckAgingExpiry n) s = next t ∧ SettledFrom { u with panel := s.panel.report .overload u.overload } t) ∧
  (∀ (n : Nat) (e : TruckEntry) (l : PartTime) (s : State), s.trucks.find n = some e → e.state = .lost →
     e.lostSince = some l → 30000 ≤ (s.partTime - l).toNat →
       let u : State := { s with tally := (s.closeLoad e .lost).tally }
       let v : State := { u with trucks := { s.trucks with entries := s.trucks.entries.filter (·.truck != n) } }
       ∃ t, exec (.lostHoldEnd n) s = next t ∧ SettledFrom { v with
         panel := (s.panel.report .overload u.overload).report .overload v.overload } t) ∧
  (∀ (e : TruckEntry) (reason : CloseReason) (s : State), s.tally.log.length ≤ 8 →
     let rs := s.tally.records.filter fun r => r.truck == e.truck && r.epoch == e.epoch
     let tally := (s.closeLoad e reason).tally
     tally.records = s.tally.records.filter (fun r => !(r.truck == e.truck && r.epoch == e.epoch)) ∧
     (rs = [] → tally.log = s.tally.log ∧ tally.shift = s.tally.shift) ∧
     (rs ≠ [] → ∃ c, tally.log = s.tally.log.drop (s.tally.log.length - 7) ++ [c] ∧
       c.truck = e.truck ∧ c.epoch = e.epoch ∧ c.reason = reason ∧ c.totalMass = (rs.map (·.mass)).sum ∧
       c.totalPasses = (rs.map (·.passes)).sum ∧ c.unweighed = (rs.map (·.unweighed)).sum ∧
       (∀ r, rs.find? (·.own) = some r → c.ownPasses = r.passes ∧ c.ownMass = r.mass) ∧
       (rs.find? (·.own) = none → c.ownPasses = 0 ∧ c.ownMass = 0) ∧
       c.contributors = rs.countP (fun r => decide (0 < r.passes)) ∧ c.target = e.target ∧ c.onBoard = e.onBoard ∧
       (c.approximate = true ↔ 0 < c.unweighed ∨ e.peerDropped = true ∨
         (∃ r ∈ rs, r.own = false ∧ ∃ x, rosterFind s.roster r.contributor = some x ∧ x.weighing = some false) ∨
         ((∃ r ∈ rs, r.own = true) ∧ s.weigh.state = .blocked)) ∧
       c.closedAt = s.partTime ∧
       tally.shift = { s.tally.shift with
         loadsClosed := if 0 < c.ownPasses then min (s.tally.shift.loadsClosed + 1) 4294967295
                        else s.tally.shift.loadsClosed }))

/-- A truck's entry is the one with its number. A truck beacon of a truck that has an entry (R2 to R5, R11, R12, R13 to
R16, R21): the entry takes the beacon's values and is heard now; a new epoch closes the old load with reason NEW_LOAD,
whose records leave the table, and clears the peer dropped mark, which an echo of the same beacon may set again; an
unchanged epoch closes nothing; the spot queue follows the state before and after; a spotted truck that finds the queue
full waits; the echoes, but for those without a contributor, are merged after all this, each as an item of the truck and
its epoch (R6, R24; AcceptedFramesAreTaken says how items are merged). -/
def Obligations.BeaconRefreshesTheEntry : Prop :=
  (∀ (t : TruckTable) (n : Nat), t.find n = t.entries.find? fun e => e.truck == n) ∧
  ∀ (b : TruckBeacon) (e : TruckEntry) (s : State), s.trucks.Sound → s.trucks.find b.truck = some e →
    b.senderKind = 2 → (1 ≤ b.truck ∧ b.truck ≤ 60) → b.truck ≠ s.settings.station → b.epoch ≠ 0 → b.code ≠ 0 →
      let items := b.echoes.filterMap fun x => if x.contributor = 0 then none else
        some ⟨b.truck, x.contributor, b.truck, b.epoch, x.revision, x.passes, x.unweighed, x.mass⟩
      ∃ t e', (s.takeTruckBeacon b) = t ∧ t.trucks.find b.truck = some e' ∧
        e'.epoch = b.epoch ∧ e'.spottedAt = b.spottedAt ∧ e'.target = b.target ∧ e'.onBoard = b.onBoard ∧
        e'.lastHeard = s.partTime ∧ e'.lostSince = none ∧
        e'.state = (if b.code = 1 then .inbound else if b.code = 2 then
          (if s.settings.station ∈ b.spottedAt then .spottedHere else .spottedAway) else .departing) ∧
        (b.epoch ≠ e.epoch → ∀ r ∈ t.tally.records, ¬ (r.truck = b.truck ∧ r.epoch = e.epoch)) ∧
        (b.epoch ≠ e.epoch → b.echoes = [] → e'.peerDropped = false ∧ t.tally = (s.closeLoad e .newLoad).tally) ∧
        (b.epoch = e.epoch → b.echoes = [] → e'.peerDropped = e.peerDropped ∧ t.tally = s.tally) ∧
        (e'.state = .spottedHere → e.state ≠ .spottedHere →
          if s.trucks.queue.length < 3 then t.trucks.queue = s.trucks.queue ++ [b.truck] ∧ e'.waitingSpot = false
          else t.trucks.queue = s.trucks.queue ∧ e'.waitingSpot = true ∧
            (t.panel.alerts.eventLatch .table).latched = true) ∧
        (e'.state = .spottedHere → e.state = .spottedHere →
          if e.waitingSpot = true ∧ s.trucks.queue.length < 3 then
            t.trucks.queue = s.trucks.queue ++ [b.truck] ∧ e'.waitingSpot = false
          else t.trucks.queue = s.trucks.queue ∧ e'.waitingSpot = e.waitingSpot) ∧
        (e'.state ≠ .spottedHere → t.trucks.queue = s.trucks.queue.filter (· != b.truck) ∧
          t.trucks.pin = if s.trucks.pin = some b.truck then none else s.trucks.pin) ∧
        (e'.state = .spottedHere → t.trucks.pin = s.trucks.pin) ∧
        (∀ n, n ≠ b.truck → t.trucks.find n = s.trucks.find n) ∧
        t = (s.takeTruckBeacon { b with echoes := [] }).mergeItems items

/-- A truck beacon of a truck that has no entry (R7, R8), in a full table with no LOST entry, is dropped and raises
TABLE; with a free place it gets an entry; in a full table the LOST entry with the oldest last heard makes room, its load
closed with reason EVICTED. The new entry takes the beacon's values, is heard now, has no marks, and when it is spotted
here joins the queue, or waits with TABLE when three are queued (R13, R15); its echoes are merged after this, as
items of the truck and its epoch (R6, R24). A beacon
that fails a condition of R2 is dropped: it changes nothing. -/
def Obligations.NewcomerNeedsAPlace : Prop :=
  (∀ (b : TruckBeacon) (s : State), s.trucks.Sound → s.trucks.find b.truck = none →
     b.senderKind = 2 → (1 ≤ b.truck ∧ b.truck ≤ 60) → b.truck ≠ s.settings.station → b.epoch ≠ 0 → b.code ≠ 0 →
       let items := b.echoes.filterMap fun x => if x.contributor = 0 then none else
         some ⟨b.truck, x.contributor, b.truck, b.epoch, x.revision, x.passes, x.unweighed, x.mass⟩
       let t := s.takeTruckBeacon b
       let here := b.code = 2 ∧ s.settings.station ∈ b.spottedAt
       let entered := t.trucks.pin = s.trucks.pin ∧
         t.trucks.queue = (if here ∧ s.trucks.queue.length < 3 then s.trucks.queue ++ [b.truck] else s.trucks.queue) ∧
         (here ∧ 3 ≤ s.trucks.queue.length → (t.panel.alerts.eventLatch .table).latched = true) ∧
         t = (s.takeTruckBeacon { b with echoes := [] }).mergeItems items ∧
         ∃ dropped, (b.echoes = [] → dropped = false) ∧ t.trucks.find b.truck = some {
           truck := b.truck, epoch := b.epoch, spottedAt := b.spottedAt, target := b.target, onBoard := b.onBoard,
           state := if b.code = 1 then .inbound else if b.code = 2 then
             (if s.settings.station ∈ b.spottedAt then .spottedHere else .spottedAway) else .departing,
           lastHeard := s.partTime, lostSince := none,
           waitingSpot := decide (here ∧ 3 ≤ s.trucks.queue.length), peerDropped := dropped }
       (s.trucks.entries.length < 16 →
         t.trucks.entries.map (·.truck) = s.trucks.entries.map (·.truck) ++ [b.truck] ∧ entered ∧
         (b.echoes = [] → t.tally = s.tally)) ∧
       (s.trucks.entries.length = 16 → (∀ e ∈ s.trucks.entries, e.state ≠ .lost) →
         t = { s with panel := s.panel.raise .table }) ∧
       (∀ e ∈ s.trucks.entries, s.trucks.entries.length = 16 → e.state = .lost →
         (∀ x ∈ s.trucks.entries, x.state = .lost → x ≠ e →
           (s.partTime - x.lastHeard).toNat < (s.partTime - e.lastHeard).toNat ∨
             ((s.partTime - x.lastHeard).toNat = (s.partTime - e.lastHeard).toNat ∧ e.truck < x.truck)) →
         t.trucks.entries.map (·.truck) = (s.trucks.entries.map (·.truck)).filter (· != e.truck) ++ [b.truck] ∧
         entered ∧ (b.echoes = [] → t.tally = (s.closeLoad e .evicted).tally))) ∧
  (∀ (b : TruckBeacon) (s : State),
     (b.senderKind ≠ 2 ∨ ¬ (1 ≤ b.truck ∧ b.truck ≤ 60) ∨ b.truck = s.settings.station ∨ b.epoch = 0 ∨ b.code = 0) →
       s.takeTruckBeacon b = s)

/-! ## Load tally -/

/-- R30: a credit without a truck is a pile pass: the pile passes count rises by 1, the pile mass by the mass, or the
unweighed passes count by 1 without one; the answer is the pile; no record is touched and no notice handed over; and
every credit that is answered with the pile is counted in the same way. R33: a void of a pile pass takes the pass back
from the pile passes and from the pile mass or the unweighed passes, no count going below 0; it is always taken; no
record is touched and no notice is handed over. -/
def Obligations.PileCreditAndVoid : Prop :=
  ((∀ (m : Option Nat) (s : State), (s.credit m none).2 = none) ∧
   (∀ (m : Option Nat) (l : Option Load) (s : State), (s.credit m l).2 = none →
     (s.credit m l).1.tally.records = s.tally.records ∧ (s.credit m l).1.channel = s.channel ∧
     (s.credit m l).1.tally.shift = { s.tally.shift with
       pilePasses := min (s.tally.shift.pilePasses + 1) 4294967295,
       pileMass := (match m with
         | some x => min (s.tally.shift.pileMass + x) 4294967295
         | none => s.tally.shift.pileMass),
       unweighed := (match m with
         | some _ => s.tally.shift.unweighed
         | none => min (s.tally.shift.unweighed + 1) 4294967295) })) ∧
  (∀ (m : Option Nat) (s : State),
     s.voidClaim m none = ({ s with tally := { s.tally with shift := { s.tally.shift with
       pilePasses := s.tally.shift.pilePasses - 1,
       pileMass := (match m with
         | some x => s.tally.shift.pileMass - x
         | none => s.tally.shift.pileMass),
       unweighed := (match m with
         | some _ => s.tally.shift.unweighed
         | none => s.tally.shift.unweighed - 1) } } }, true))

/-- A record is found, and replaced in its place, by contributor, truck and epoch (R23); own and peer records are
counted by their mark. R31, R32, R35: a credit to an open load takes the pass into the own record, or creates it at
revision 1, counts it in the shift and hands a notice in ACTIVE; at revision 255, at 48 passes or with 12 own records it
goes to the pile and raises TABLE. R31, R45: a credit to a load that is no longer open goes to the pile, and nothing but
the shift totals changes: no alert is raised. -/
def Obligations.TruckCredit : Prop :=
  (∀ (rs : List Contribution) (contributor truck epoch : Nat) (f : Contribution → Contribution),
    let same := fun r : Contribution => r.contributor = contributor ∧ r.truck = truck ∧ r.epoch = epoch
    findRecord rs contributor truck epoch = rs.find? (fun r => decide (same r)) ∧
      updateRecord rs contributor truck epoch f = rs.map fun r => if same r then f r else r) ∧
  (∀ t : LoadTally, t.ownCount = t.records.countP (fun r => r.own) ∧
    t.peerCount = t.records.countP fun r => !r.own) ∧
  (∀ r : Contribution, r.slot = ⟨r.truck, r.epoch, r.revision, r.passes, r.unweighed, r.mass⟩) ∧
  (∀ (m : Option Nat) (l : Load) (s : State), (∀ e, s.trucks.find l.truck = some e → e.epoch ≠ l.epoch) →
    (s.credit m (some l)).2 = none ∧
      (s.credit m (some l)).1 = { s with tally := { s.tally with shift := (s.credit m (some l)).1.tally.shift } }) ∧
  ∀ (m : Option Nat) (l : Load) (e : TruckEntry) (s : State), s.trucks.find l.truck = some e → e.epoch = l.epoch →
    let taken := fun r : Contribution => { r with
      revision := r.revision + 1, passes := r.passes + 1,
      mass := (match m with
        | some x => min (r.mass + x) 65535
        | none => r.mass),
      unweighed := if m = none then r.unweighed + 1 else r.unweighed }
    let made : Contribution :=
      ⟨s.settings.station, l.truck, l.epoch, 1, 1, if m = none then 1 else 0, min (m.getD 0) 65535, true⟩
    let shift := { s.tally.shift with
      ownPasses := min (s.tally.shift.ownPasses + 1) 4294967295,
      ownMass := (match m with
        | some x => min (s.tally.shift.ownMass + x) 4294967295
        | none => s.tally.shift.ownMass),
      unweighed := (match m with
        | some _ => s.tally.shift.unweighed
        | none => min (s.tally.shift.unweighed + 1) 4294967295) }
    (∀ r, findRecord s.tally.records s.settings.station l.truck l.epoch = some r →
      (r.revision < 255 → r.passes < 48 →
        (s.credit m (some l)).2 = some l ∧ (s.credit m (some l)).1.tally.shift = shift ∧
        (s.credit m (some l)).1.tally.records = updateRecord s.tally.records s.settings.station l.truck l.epoch taken ∧
        (s.credit m (some l)).1.channel = (if s.station = .active then
          s.channel.queueNotice ⟨(taken r).slot, s.channel.beaconSequence⟩ else s.channel)) ∧
      ((255 ≤ r.revision ∨ 48 ≤ r.passes) →
        (s.credit m (some l)).2 = none ∧ (s.credit m (some l)).1.panel = s.panel.raise .table)) ∧
    (findRecord s.tally.records s.settings.station l.truck l.epoch = none →
      (s.tally.ownCount < 12 →
        (s.credit m (some l)).2 = some l ∧ (s.credit m (some l)).1.tally.shift = shift ∧
        (s.credit m (some l)).1.tally.records = s.tally.records ++ [made] ∧
        (s.credit m (some l)).1.channel = (if s.station = .active then
          s.channel.queueNotice ⟨made.slot, s.channel.beaconSequence⟩ else s.channel)) ∧
      (12 ≤ s.tally.ownCount →
        (s.credit m (some l)).2 = none ∧ (s.credit m (some l)).1.panel = s.panel.raise .table))

/-- R34: a void of a truck pass is taken exactly when the load is open, the own record exists with at least one pass, it
can absorb the pass, and its revision is below 255; a refused void changes nothing; a taken one raises the revision,
takes the pass out of the record and the shift totals, and hands a notice in ACTIVE. The model's choices: a weighed void
leaves unweighed no greater than the passes left (R23, log entry 30), and a total at 0 stays at 0 (log entry 22). -/
def Obligations.TruckVoid : Prop :=
  ∀ (m : Option Nat) (l : Load) (s : State),
    let absorbs := fun r : Contribution => 1 ≤ r.passes ∧ r.revision < 255 ∧ (∀ x, m = some x → x ≤ r.mass) ∧
      (m = none → 1 ≤ r.unweighed)
    let unweighed := fun r : Contribution => if m = none then r.unweighed - 1 else min r.unweighed (r.passes - 1)
    ((s.voidClaim m (some l)).2 = true ↔
      (∃ e, s.trucks.find l.truck = some e ∧ e.epoch = l.epoch) ∧
        ∃ r, findRecord s.tally.records s.settings.station l.truck l.epoch = some r ∧ absorbs r) ∧
    ((s.voidClaim m (some l)).2 = false → (s.voidClaim m (some l)).1 = s) ∧
    ((s.voidClaim m (some l)).2 = true →
      (s.voidClaim m (some l)).1.tally.records = updateRecord s.tally.records s.settings.station l.truck l.epoch
        fun r => { r with
          revision := r.revision + 1, passes := r.passes - 1, mass := r.mass - m.getD 0, unweighed := unweighed r }) ∧
    (∀ r, findRecord s.tally.records s.settings.station l.truck l.epoch = some r → (s.voidClaim m (some l)).2 = true →
      (s.voidClaim m (some l)).1.tally.shift = { s.tally.shift with
        ownPasses := s.tally.shift.ownPasses - 1, ownMass := s.tally.shift.ownMass - m.getD 0,
        unweighed := if m = none then s.tally.shift.unweighed - 1 else s.tally.shift.unweighed } ∧
      (s.voidClaim m (some l)).1.channel = (if s.station = .active then
        s.channel.queueNotice ⟨⟨r.truck, r.epoch, r.revision + 1, r.passes - 1, unweighed r, r.mass - m.getD 0⟩,
          s.channel.beaconSequence⟩
        else s.channel))

/-- R28: a matched peer item whose key is held replaces the record's revision, passes, unweighed and mass when its
revision is greater, and changes nothing when it is equal or lower. R37, with R35: a matched item naming this station,
whose own record exists, replaces its values when its revision is greater, and a pass notice of the new values is
handed over in ACTIVE; it is ignored when equal or lower. -/
def Obligations.HeldItemGoesByRevision : Prop :=
  (∀ (i : Item) (e : TruckEntry) (r : Contribution) (s : State), i.passesChecks s.settings.station = true →
     s.trucks.find i.truck = some e → e.epoch = i.epoch → i.contributor ≠ s.settings.station →
     findRecord s.tally.records i.contributor i.truck i.epoch = some r →
       (r.revision < i.revision →
         (s.mergeItem i).tally = { s.tally with
           records := updateRecord s.tally.records i.contributor i.truck i.epoch fun x =>
             { x with revision := i.revision, passes := i.passes, unweighed := i.unweighed, mass := i.mass } } ∧
         (s.mergeItem i).channel = s.channel ∧ (s.mergeItem i).trucks = s.trucks) ∧
       (i.revision ≤ r.revision → s.mergeItem i = s)) ∧
  (∀ (i : Item) (e : TruckEntry) (r : Contribution) (s : State), i.passesChecks s.settings.station = true →
     s.trucks.find i.truck = some e → e.epoch = i.epoch → i.contributor = s.settings.station →
     findRecord s.tally.records i.contributor i.truck i.epoch = some r →
       (r.revision < i.revision →
         (s.mergeItem i).tally = { s.tally with
           records := updateRecord s.tally.records i.contributor i.truck i.epoch fun x =>
             { x with revision := i.revision, passes := i.passes, unweighed := i.unweighed, mass := i.mass } } ∧
         (s.mergeItem i).channel = (if s.station = .active then
           s.channel.queueNotice ⟨⟨i.truck, i.epoch, i.revision, i.passes, i.unweighed, i.mass⟩, s.channel.beaconSequence⟩
           else s.channel) ∧
         (s.mergeItem i).trucks = s.trucks) ∧
       (i.revision ≤ r.revision → s.mergeItem i = s))

/-- R25 to R27, R35, R36: an item that fails a check, or matches no open load, changes nothing; the checks are those of
the sender, contributor, truck, revision, passes and unweighed. A matched item with a new key is stored as a peer record,
or as an own one with a notice in ACTIVE; with 36 or 12 of its kind held it sets the peer dropped mark, and raises TABLE
for an own one. -/
def Obligations.NewKeyNeedsAPlace : Prop :=
  ∀ (i : Item) (s : State),
    let marked := { s.trucks with
      entries := s.trucks.entries.map fun x => if x.truck = i.truck then { x with peerDropped := true } else x }
    (i.passesChecks s.settings.station = true ↔
      i.sender ≠ s.settings.station ∧ (1 ≤ i.contributor ∧ i.contributor ≤ 60) ∧ (1 ≤ i.truck ∧ i.truck ≤ 60) ∧
        i.revision ≠ 0 ∧ i.passes ≤ 48 ∧ i.unweighed ≤ i.passes) ∧
    (i.passesChecks s.settings.station = false → s.mergeItem i = s) ∧
    ((∀ e, s.trucks.find i.truck = some e → e.epoch ≠ i.epoch) → s.mergeItem i = s) ∧
    (∀ e, i.passesChecks s.settings.station = true → s.trucks.find i.truck = some e → e.epoch = i.epoch →
      findRecord s.tally.records i.contributor i.truck i.epoch = none →
        (i.contributor ≠ s.settings.station → s.tally.peerCount < 36 →
          (s.mergeItem i).tally = { s.tally with records := s.tally.records ++
            [⟨i.contributor, i.truck, i.epoch, i.revision, i.passes, i.unweighed, i.mass, false⟩] } ∧
          (s.mergeItem i).channel = s.channel ∧ (s.mergeItem i).trucks = s.trucks) ∧
        (i.contributor ≠ s.settings.station → 36 ≤ s.tally.peerCount → s.mergeItem i = { s with trucks := marked }) ∧
        (i.contributor = s.settings.station → s.tally.ownCount < 12 →
          (s.mergeItem i).tally = { s.tally with records := s.tally.records ++
            [⟨i.contributor, i.truck, i.epoch, i.revision, i.passes, i.unweighed, i.mass, true⟩] } ∧
          (s.mergeItem i).channel = (if s.station = .active then
            s.channel.queueNotice ⟨⟨i.truck, i.epoch, i.revision, i.passes, i.unweighed, i.mass⟩, s.channel.beaconSequence⟩
            else s.channel) ∧
          (s.mergeItem i).trucks = s.trucks) ∧
        (i.contributor = s.settings.station → 12 ≤ s.tally.ownCount → s.mergeItem i = { s with
          trucks := marked, panel := s.panel.raise .table }))

/-- R39 and R41: remaining is the target less the total, signed, absent at target 0; OVERLOAD holds exactly when there is
a receiving truck with a target, and the total of its current load exceeds target plus margin. -/
def Obligations.RemainingAndOverload : Prop :=
  (∀ target total : Nat, (target = 0 → remainingMass target total = none) ∧
    (target ≠ 0 → remainingMass target total = some ((target : Int) - total))) ∧
  (∀ s : State, s.overload = true ↔ ∃ n e, s.trucks.pin.or s.trucks.queue.head? = some n ∧
    s.trucks.find n = some e ∧ e.target ≠ 0 ∧
    e.target + s.settings.overloadMargin <
      ((s.tally.records.filter fun r => r.truck == e.truck && r.epoch == e.epoch).map (·.mass)).sum)

/-! ## Loader roster -/

/-- A loader's entry is the one with its number. ROSTER_QUIET_EXPIRY, ROSTER_LOST_EXPIRY and ROSTER_REMOVAL_EXPIRY (R51
to R53): 2500 ms after last heard a LIVE entry is QUIET; 6000 ms after it a QUIET entry is LOST since now; 60 s after
that it is removed; no record is touched. R48, R49 and R54: a frame from another loader with an entry makes it LIVE and
heard now; a part of a new sequence also gives its sequence, flag and receiving truck, and a further part of the same
one does not; with no entry and a free place, one is created; a full roster replaces its LOST entry with the oldest last
heard, or leaves the newcomer out; a sender outside 1 to 60 is left aside (R50). What SettledFrom leaves open is the
settling at the end of the command (the model's choice, log entry 13). -/
def Obligations.RosterHearsAndAges : Prop :=
  (∀ (r : List RosterEntry) (n : Nat), rosterFind r n = r.find? fun e => e.loader == n) ∧
  (∀ (n : Nat) (e : RosterEntry) (s : State), rosterFind s.roster n = some e →
     (e.state = .live → 2500 ≤ (s.partTime - e.lastHeard).toNat →
       ∃ t, exec (.rosterQuietExpiry n) s = next t ∧ SettledFrom { s with
         roster := s.roster.map fun x => if x.loader = n then { x with state := .quiet } else x } t) ∧
     (e.state = .quiet → 6000 ≤ (s.partTime - e.lastHeard).toNat →
       ∃ t, exec (.rosterLostExpiry n) s = next t ∧ SettledFrom { s with
         roster := s.roster.map fun x =>
           if x.loader = n then { x with state := .lost, lostSince := some s.partTime } else x } t) ∧
     (∀ l, e.state = .lost → e.lostSince = some l → 60000 ≤ (s.partTime - l).toNat →
       ∃ t, exec (.rosterRemovalExpiry n) s = next t ∧ SettledFrom { s with
         roster := s.roster.filter (·.loader != n) } t)) ∧
  (∀ (n : Nat) (p : PartFacts) (s : State), ¬ (1 ≤ n ∧ n ≤ 60) → s.rosterNotice n = s ∧ s.rosterPart n p = s) ∧
  (∀ (n : Nat) (p : PartFacts) (s : State), 1 ≤ n → n ≤ 60 → n ≠ s.settings.station →
     (∀ e, rosterFind s.roster n = some e →
       (s.rosterNotice n).roster = (s.roster.map fun x => if x.loader = n then
         { x with state := .live, lastHeard := s.partTime, lostSince := none } else x) ∧
       (s.rosterPart n p).roster = (s.roster.map fun x => if x.loader = n then
         (if x.lastSequence = some p.sequence then { x with state := .live, lastHeard := s.partTime, lostSince := none }
           else ⟨x.loader, .live, s.partTime, none, some p.sequence, some p.weighing, some p.receiving⟩) else x)) ∧
     (rosterFind s.roster n = none → s.roster.length < 12 →
       (s.rosterNotice n).roster = s.roster ++ [⟨n, .live, s.partTime, none, none, none, none⟩] ∧
       (s.rosterPart n p).roster =
         s.roster ++ [⟨n, .live, s.partTime, none, some p.sequence, some p.weighing, some p.receiving⟩]) ∧
     (rosterFind s.roster n = none → s.roster.length = 12 → (∀ e ∈ s.roster, e.state ≠ .lost) →
       s.rosterNotice n = s ∧ s.rosterPart n p = s) ∧
     (∀ e ∈ s.roster, rosterFind s.roster n = none → s.roster.length = 12 → e.state = .lost →
       (∀ x ∈ s.roster, x.state = .lost → x ≠ e →
         (s.partTime - x.lastHeard).toNat < (s.partTime - e.lastHeard).toNat ∨
           ((s.partTime - x.lastHeard).toNat = (s.partTime - e.lastHeard).toNat ∧ e.loader < x.loader)) →
       (s.rosterNotice n).roster =
         s.roster.filter (·.loader != e.loader) ++ [⟨n, .live, s.partTime, none, none, none, none⟩] ∧
       (s.rosterPart n p).roster = s.roster.filter (·.loader != e.loader) ++
         [⟨n, .live, s.partTime, none, some p.sequence, some p.weighing, some p.receiving⟩]))

/-! ## Channel access -/

/-- BEACON_TIMER_EXPIRY (R120, R121, R123): in ACTIVE a beacon is built with the next sequence, modulo 256, its parts
replace the queued parts, and the next expiry falls one period after this one. The parts of a beacon (R122): one for
up to 6 own records, two for 7 to 12; every part carries the sequence, the weighing-available flag, the receiving
truck with 0 for none, its number and the number of parts, and six slots: the own records in ascending order of truck,
then padding.
What SettledFrom leaves open is the settling at the end of the command (the model's choice, log entry 13). -/
def Obligations.BeaconIsBuilt : Prop :=
  (∀ (tm : Timer) (s : State), s.station = .active → s.channel.beaconTimer = some tm →
     tm.run ≤ (s.partTime - tm.start).toNat →
       ∃ t, exec .beaconTimerExpiry s = next t ∧
         SettledFrom { s with channel := { s.channel with
           beaconSequence := s.channel.beaconSequence + 1, parts := s.beaconParts (s.channel.beaconSequence + 1),
           beaconTimer := some ⟨tm.start + BitVec.ofNat 32 tm.run, tm.run⟩ } } t) ∧
  (∀ (q : Byte) (s : State), s.tally.ownCount ≤ 12 →
     let ps := s.beaconParts q
     let own := (s.tally.records.filter (·.own)).map Contribution.slot
     let n := if s.tally.ownCount ≤ 6 then 1 else 2
     ps.length = n ∧ ps.map (·.part) = (List.range n).map (· + 1) ∧
     (∀ p ∈ ps, p.sequence = q ∧ p.parts = n ∧ p.weighing = decide (s.weigh.state ≠ .blocked) ∧
       p.receiving = (s.trucks.pin.or s.trucks.queue.head?).getD 0 ∧ p.slots.length = 6) ∧
     ∃ es, es.Perm own ∧ (es.map (·.truck)).Pairwise (· ≤ ·) ∧
       ps.flatMap (·.slots) = es ++ List.replicate (6 * n - s.tally.ownCount) ⟨0, 0, 0, 0, 0, 0⟩)

/-- The joining of a pass notice (R125, R126): one for the same truck and epoch takes the new values in its place; else
the new one goes behind the others, the oldest of four leaving first; the parts stay behind the notices as they are. -/
def Obligations.NoticeJoinsOrCoalesces : Prop :=
  ∀ (n : Notice) (c : ChannelAccess),
    let same := fun q : Notice => q.slot.truck = n.slot.truck ∧ q.slot.epoch = n.slot.epoch
    (c.queueNotice n).parts = c.parts ∧
    (∀ before after q, c.notices = before ++ q :: after → same q → (∀ x ∈ before, ¬ same x) → (∀ x ∈ after, ¬ same x) →
      (c.queueNotice n).notices = before ++ n :: after) ∧
    ((∀ x ∈ c.notices, ¬ same x) → c.notices.length < 4 → (c.queueNotice n).notices = c.notices ++ [n]) ∧
    (∀ q rest, (∀ x ∈ c.notices, ¬ same x) → c.notices.length = 4 → c.notices = q :: rest →
      (c.queueNotice n).notices = rest ++ [n])

/-- HOLD_OFF_EXPIRY (R126, R129, R148, R149): in ACTIVE the head frame, a notice before a part, leaves the queue for the
line with its check and stuffing; it starts SENDING when CS_IN is active, and HELD with the stall timer at 500 ms when it
is not; the carrier watch is paused.
The operand says that CS_IN has fallen since it last became active (the model's choice, log entry 7). -/
def Obligations.HoldOffHandsTheHead : Prop :=
  ∀ (fell : Bool) (tm : Timer) (body : List Byte) (s : State), s.station = .active → s.channel.holdOff = some tm →
    tm.run ≤ (s.partTime - tm.start).toNat →
    ((∃ n ns, s.channel.notices = n :: ns ∧ body = n.frame s.settings.station) ∨
      (s.channel.notices = [] ∧ ∃ p ps, s.channel.parts = p :: ps ∧ body = p.frame s.settings.station)) →
      ∃ t, exec (.holdOffExpiry fell) s = next t ∧
        t = { s with
          pins := { s.pins with csIn := s.pins.csIn && !fell },
          channel := { s.channel with
            notices := s.channel.notices.drop 1,
            parts := if s.channel.notices = [] then s.channel.parts.drop 1 else s.channel.parts,
            holdOff := none, frameOnLine := true, carrierWatch := none },
          link := { s.link with
            onLine := some ⟨startCharacter :: (stuff (body ++ checkBytes body) ++ [endCharacter]), 0⟩,
            transmitter := if s.pins.csIn && !fell then .sending else .held,
            charStart := if s.pins.csIn && !fell then some ⟨s.partTime, s.subTime⟩ else none,
            stallTimer := if s.pins.csIn && !fell then none else some ⟨s.partTime, 500⟩ } }

/-- CARRIER_RISE and CARRIER_FALL (R127, R128, R132, R133, R151): a rise on the face with no own frame on the line
abandons the hold-off and starts the carrier watch at 2000 ms; elsewhere only the level changes. A fall on the face
stops the watch, ends carrier stuck, and the CHANNEL condition is reported. CARRIER_WATCH_EXPIRY (R132, R133): carrier
stuck becomes yes and the CHANNEL condition arises.
What SettledFrom leaves open is the settling at the end of the command (the model's choice, log entry 13). -/
def Obligations.CarrierIsWatched : Prop :=
  (∀ (s : State),
     (s.pins.cdIn = false → s.station.onFace = true → s.channel.frameOnLine = false →
       exec .carrierRise s = next { s with
         pins := { s.pins with cdIn := true },
         channel := { s.channel with holdOff := none, carrierWatch := some ⟨s.partTime, 2000⟩ } }) ∧
     (s.pins.cdIn = false → (s.station.onFace = false ∨ s.channel.frameOnLine = true) →
       exec .carrierRise s = next { s with pins := { s.pins with cdIn := true } }) ∧
     (s.pins.cdIn = true → s.station.onFace = true →
       ∃ t, exec .carrierFall s = next t ∧ SettledFrom { s with
         pins := { s.pins with cdIn := false },
         channel := { s.channel with carrierWatch := none, carrierStuck := false },
         panel := s.panel.report .channel s.channel.sendStall } t) ∧
     (s.pins.cdIn = true → s.station.onFace = false →
       exec .carrierFall s = next { s with pins := { s.pins with cdIn := false } })) ∧
  (∀ (tm : Timer) (s : State), s.station.onFace = true → s.channel.carrierWatch = some tm →
     tm.run ≤ (s.partTime - tm.start).toNat →
       ∃ t, exec .carrierWatchExpiry s = next t ∧ SettledFrom { s with
         channel := { s.channel with carrierWatch := none, carrierStuck := true },
         panel := s.panel.report .channel true } t)

/-! ## Link port -/

/-- A character takes ten bit times (R136): 600, 300, 150 or 100 units of 1/576 ms at the configured rate, and at 57 600
baud in loopback (R152); a span is the units between two instants, modulo 2^32 ms (the model's time, log entry 1).
CHARACTER_RECEIVED with the receiver on (R136 to R138): the byte with a good stop bit joins the FIFO with its three
marks, or is lost when 64 are held; the 48th makes RDY_OUT inactive; a stop bit at the start level stores nothing and
leaves loss pending; both set last arrival. With the receiver off RXD is ignored; without a start bit, and after a
framing error before the line has been at rest, there is no character. The operand carries the levels of RXD (the
model's choice, log entry 8). -/
def Obligations.CharacterIsStoredOrLost : Prop :=
  (LineRate.baud9600.characterUnits = 600 ∧ LineRate.baud19200.characterUnits = 300 ∧
    LineRate.baud38400.characterUnits = 150 ∧ LineRate.baud57600.characterUnits = 100 ∧
    (∀ s : State, s.rate = if s.link.loopback = true then .baud57600 else s.settings.rate) ∧
    (∀ a b : Instant, unitsBetween a b = (a.ms - b.ms).toNat * 576 + a.sub - b.sub) ∧
    ∀ s : State, s.rdyOutPin = s.link.rdyOut) ∧
  ∀ (x : LineCharacter) (s : State),
    let levels := if s.settings.rxdInverted then ~~~x.levels else x.levels
    let rested := s.link.awaitRest = false ∨ (x.before != s.settings.rxdInverted) = true
    let gap : Bool := match s.link.lastArrival with
      | none => false
      | some a => decide (3 * s.rate.characterUnits < unitsBetween ⟨s.partTime, s.subTime⟩ a)
    (s.link.receiveEnable = false → exec (.characterReceived x) s = next s) ∧
    (levels.getLsbD 0 = true → exec (.characterReceived x) s = next s) ∧
    (¬ rested → exec (.characterReceived x) s = next s) ∧
    (s.link.receiveEnable = true → levels.getLsbD 0 = false → rested → levels.getLsbD 9 = true →
      (s.link.fifo.length < 64 → exec (.characterReceived x) s = next { s with link := { s.link with
        fifo := s.link.fifo ++ [⟨levels.extractLsb' 1 8, gap, s.link.lossPending, s.link.onLine.isSome⟩],
        lossPending := false, rdyOut := if s.link.fifo.length = 47 then false else s.link.rdyOut,
        lastArrival := some ⟨s.partTime, s.subTime⟩, awaitRest := false } }) ∧
      (s.link.fifo.length = 64 → exec (.characterReceived x) s = next { s with link := { s.link with
        lossPending := true, lastArrival := some ⟨s.partTime, s.subTime⟩, awaitRest := false } })) ∧
    (s.link.receiveEnable = true → levels.getLsbD 0 = false → rested → levels.getLsbD 9 = false →
      exec (.characterReceived x) s = next { s with link := { s.link with
        lossPending := true, lastArrival := some ⟨s.partTime, s.subTime⟩, awaitRest := true } })

/-- ASSEMBLER_TAKES_BYTE of a byte that ends no frame (R138, R139, R142 to R145): the head leaves the FIFO, 16 left make
RDY_OUT active while the receiver is on, and the assembler treats the byte by its state, its value and its marks. When
the byte empties the FIFO and more than three character times have passed since last arrival, a frame still in assembly
is discarded in the same step, as R144 has it (the model's reading, log entry 29). ASSEMBLER_TAKES_BYTE of an end
character inside a frame that is not accepted (R142, R146), in ESCAPED or with a check that fails: the frame is
discarded, and nothing but the link port changes. That a discard leaves the broken mark no is the model's choice (log
entry 32). -/
def Obligations.AssemblerTreatsAByte : Prop :=
  (∀ (x : RxByte) (rest : List RxByte) (s : State), s.link.busy = false → s.link.fifo = x :: rest →
    (x.byte = endCharacter → s.link.assembler = .hunting ∨ x.gap = true) →
      let l : LinkPort := { s.link with
        fifo := rest,
        rdyOut := if s.link.receiveEnable = true ∧ rest.length = 16 then true else s.link.rdyOut }
      let broken := s.link.broken || x.loss || x.ownSend
      let kept := fun b : Byte =>
        if s.link.buffer.length < 54 then
          { l with assembler := .inFrame, buffer := s.link.buffer ++ [b], broken := broken }
        else { l with assembler := .inFrame, broken := true }
      let taken : LinkPort :=
        if x.byte = startCharacter then { l with assembler := .inFrame, buffer := [], broken := x.ownSend }
        else if s.link.assembler = .hunting then l
        else if x.gap = true then { l with assembler := .hunting, buffer := [], broken := false }
        else if s.link.assembler = .inFrame then
          (if x.byte = escapeCharacter then { l with assembler := .escaped, broken := broken } else kept x.byte)
        else if x.byte = 0xE0 ∨ x.byte = 0xE1 ∨ x.byte = 0xE2 then kept (x.byte ^^^ 0x10)
        else { l with assembler := .inFrame, broken := true }
      let late := rest = [] ∧ taken.assembler ≠ .hunting ∧ ∃ a, s.link.lastArrival = some a ∧
        3 * s.rate.characterUnits < unitsBetween ⟨s.partTime, s.subTime⟩ a
      (¬ late → exec .assemblerTakesByte s = next { s with link := taken }) ∧
      (late → exec .assemblerTakesByte s = next { s with link := { taken with
        assembler := .hunting, buffer := [], broken := false } })) ∧
  (∀ (x : RxByte) (rest : List RxByte) (s : State), s.link.busy = false → s.link.fifo = x :: rest →
    x.byte = endCharacter → x.gap = false →
    (s.link.assembler = .escaped ∨ (s.link.assembler = .inFrame ∧
      frameAccepted (s.link.broken || x.loss || x.ownSend) s.link.buffer = false)) →
      exec .assemblerTakesByte s = next { s with link := { s.link with
        fifo := rest, rdyOut := if s.link.receiveEnable = true ∧ rest.length = 16 then true else s.link.rdyOut,
        assembler := .hunting, buffer := [], broken := false } })

/-- ASSEMBLER_TAKES_BYTE of the end character of a frame that passes the seven checks and carries this station's own
number (R146, R147, R58, R59, R131): in LISTEN and ACTIVE the station becomes SILENT, CONFLICT arises, the queue is
emptied on leaving ACTIVE, and the frame reaches no table; the assembler is busy and outside a frame. In SILENT the
report changes nothing: the link port takes the frame and every other block stays.
What SettledFrom leaves open is the settling at the end of the command (the model's choice, log entry 13). How long the
blocks take the frame is a free value (log entry 4), and the broken mark is no behind it by the model's choice (log
entry 32). -/
def Obligations.OwnNumberSilencesTheStation : Prop :=
  ∀ (x : RxByte) (rest : List RxByte) (s : State), s.link.busy = false → s.link.fifo = x :: rest →
    x = ⟨endCharacter, false, false, false⟩ → s.link.assembler = .inFrame →
    frameAccepted s.link.broken s.link.buffer = true → byteAt s.link.buffer 2 = s.settings.station →
    (s.station = .silent →
      ∃ t, exec .assemblerTakesByte s = next t ∧ SettledFrom { s with
        link := { s.link with
          fifo := rest, rdyOut := if s.link.receiveEnable = true ∧ rest.length = 16 then true else s.link.rdyOut,
          assembler := .hunting, buffer := [], broken := false, busy := true,
          busySince := some ⟨s.partTime, s.subTime⟩, busyUnits := (Config.frameTakeUnits s.free).val },
        free := s.free + 1 } t) ∧
    ((s.station = .listen ∨ s.station = .active) →
      ∃ t, exec .assemblerTakesByte s = next t ∧ t.station = .silent ∧ t.panel.alerts.conflict.condition = true ∧
        t.startup.joinTimer = (if s.station = .listen then none else s.startup.joinTimer) ∧
        t.trucks = s.trucks ∧ t.tally = s.tally ∧ t.roster = s.roster ∧ t.weigh = s.weigh ∧ t.cycle = s.cycle ∧
        t.scan = s.scan ∧ t.settings = s.settings ∧ t.partTime = s.partTime ∧
        (s.station = .active → t.channel.notices = [] ∧ t.channel.parts = [] ∧ t.channel.beaconTimer = none ∧
          t.channel.holdOff = none) ∧
        t.channel.frameOnLine = s.channel.frameOnLine ∧ t.link.onLine = s.link.onLine ∧
        t.link.fifo = rest ∧ t.link.busy = true ∧ t.link.assembler = .hunting ∧ t.link.buffer = [])

/-- The bytes of a frame are numbered from 0 in order of arrival, and a word is two of them, the high one first (chapter
11.1). An accepted frame (R146, R147, R153, R178, R182). The seven checks: not broken, at least the six header bytes,
version 1, a kind with its payload length, exactly that many bytes, and the check of all but the last two bytes in the
last two. Its end character has the assembler hand over its header and payload; on the face, with another station's
number, a truck beacon goes to the truck table, a loader beacon part to the roster and its slots to the tally, a pass
notice to both; the header's sender kind of the last two is not read. The entry slots are those of chapter 11.1, a slot
whose truck is 0 is padding, and the items are merged in slot order, each whole before the next (R24). A truck beacon is
read by the offsets of chapter 11.1, with the spotted-at list of R3. The test frames are those of R178, byte for byte.
In SELF_TEST, identical to the expected test frame, it advances the test, and after frame 3 enters LISTEN with the
loopback released (R152), assembler busy no (log entry 19), the receiver on, RDY_OUT active, the join and scan timers
started, and the carrier watch at 2000 ms when CD_IN is active (R151, R179); different from it, it halts the part with
reason LINKTEST. At both ends of the test the two test frame numbers are 0 by the model's choice (log entry 33), and the
link port's time marks are those of log entries 4 and 34. Nothing else changes, and no table is reached. What
SettledFrom leaves open is the settling at the end of the command (the model's choice, log entry 13). How long the
blocks take the frame is a free value (log entry 4), and the broken mark is no behind it by the model's choice (log
entry 32). -/
def Obligations.AcceptedFramesAreTaken : Prop :=
  (∀ (f : List Byte) (i : Nat), byteAt f i = (f.getD i 0).toNat ∧ wordAt f i = byteAt f i * 256 + byteAt f (i + 1)) ∧
  (∀ (broken : Bool) (buffer : List Byte), frameAccepted broken buffer = true ↔
    broken = false ∧ 6 ≤ buffer.length ∧ byteAt buffer 0 = 1 ∧
      ((byteAt buffer 1 = 1 ∧ byteAt buffer 5 = 32 ∧ buffer.length = 40) ∨
        (byteAt buffer 1 = 2 ∧ byteAt buffer 5 = 46 ∧ buffer.length = 54) ∨
        (byteAt buffer 1 = 3 ∧ byteAt buffer 5 = 8 ∧ buffer.length = 16)) ∧
      (crc16 (buffer.take (buffer.length - 2))).toNat = wordAt buffer (buffer.length - 2)) ∧
  (∀ f : List Byte,
    let station := fun n : Nat => 1 ≤ n ∧ n ≤ 60
    let b := readTruckBeacon f
    b.truck = byteAt f 2 ∧ b.senderKind = byteAt f 3 ∧ b.code = byteAt f 6 % 4 ∧ b.epoch = byteAt f 7 ∧
      b.target = byteAt f 10 * 256 + byteAt f 11 ∧
      (128 ≤ byteAt f 6 → b.onBoard = some (byteAt f 12 * 256 + byteAt f 13)) ∧
      (byteAt f 6 < 128 → b.onBoard = none) ∧
      (∀ n, n ∈ b.spottedAt ↔ station n ∧ (n = byteAt f 8 ∨ n = byteAt f 9)) ∧ b.spottedAt.Nodup ∧
      (station (byteAt f 8) → b.spottedAt.head? = some (byteAt f 8)) ∧
      b.echoes.length = 4 ∧
      ∀ k, k < 4 → b.echoes[k]? = some ⟨byteAt f (14 + 6 * k), byteAt f (15 + 6 * k), byteAt f (16 + 6 * k),
        byteAt f (17 + 6 * k), byteAt f (18 + 6 * k) * 256 + byteAt f (19 + 6 * k)⟩) ∧
  (∀ (rest : List RxByte) (s : State), s.link.busy = false →
    s.link.fifo = ⟨endCharacter, false, false, false⟩ :: rest → s.link.assembler = .inFrame →
    frameAccepted s.link.broken s.link.buffer = true →
      exec .assemblerTakesByte s = next (({ s with link := { s.link with
        fifo := rest, rdyOut := if s.link.receiveEnable = true ∧ rest.length = 16 then true else s.link.rdyOut,
        assembler := .hunting, buffer := [], broken := false } } : State).acceptFrame
          (s.link.buffer.take (s.link.buffer.length - 2)))) ∧
  ((∀ s : State, s.mergeItems [] = s) ∧
    ∀ (i : Item) (is : List Item) (s : State), s.mergeItems (i :: is) = (s.mergeItem i).showTexts.mergeItems is) ∧
  (∀ (f : List Byte) (s : State), s.station.onFace = true → byteAt f 2 ≠ s.settings.station →
    let u : State := { s with
      link := { s.link with
        busy := true, busySince := some ⟨s.partTime, s.subTime⟩, busyUnits := (Config.frameTakeUnits s.free).val },
      free := s.free + 1 }
    let slot := fun k : Nat => (⟨byteAt f 2, byteAt f 2, byteAt f (10 + 7 * k), byteAt f (11 + 7 * k),
      byteAt f (12 + 7 * k), byteAt f (13 + 7 * k), byteAt f (14 + 7 * k),
      byteAt f (15 + 7 * k) * 256 + byteAt f (16 + 7 * k)⟩ : Item)
    (byteAt f 1 = 1 → SettledFrom (u.takeTruckBeacon (readTruckBeacon f)) (s.acceptFrame f)) ∧
    (byteAt f 1 = 2 → SettledFrom
      ((u.rosterPart (byteAt f 2) ⟨f.getD 4 0, byteAt f 6 % 2 = 1,
          if 1 ≤ byteAt f 7 ∧ byteAt f 7 ≤ 60 then some (byteAt f 7) else none⟩).mergeItems
        (([0, 1, 2, 3, 4, 5].map slot).filter fun i => i.truck != 0)) (s.acceptFrame f)) ∧
    (byteAt f 1 = 3 → SettledFrom
      ((u.rosterNotice (byteAt f 2)).mergeItem
        ⟨byteAt f 2, byteAt f 2, byteAt f 6, byteAt f 7, byteAt f 8, byteAt f 9, byteAt f 10,
          byteAt f 11 * 256 + byteAt f 12⟩)
      (s.acceptFrame f))) ∧
  (∀ station : Nat,
    let payload := fun n : Nat =>
      (0xF0 : Byte) :: 0xF1 :: 0xF2 :: (List.range (n - 3)).map fun k => BitVec.ofNat 8 (k + 3)
    testFrame station 1 = [1, 3, BitVec.ofNat 8 station, 1, 0xF2, 8] ++ payload 8 ∧
      testFrame station 2 = [1, 1, BitVec.ofNat 8 station, 2, 0xF2, 32] ++ payload 32 ∧
      testFrame station 3 = [1, 2, BitVec.ofNat 8 station, 1, 0xF2, 46] ++ payload 46) ∧
  ∀ (f : List Byte) (s : State), s.station = .selfTest →
    let released := fun l : LinkPort => { l with
      loopback := false, transmitter := .idle, onLine := none, charStart := none, stallTimer := none, fifo := [],
      lossPending := false, lastArrival := none, awaitRest := false, assembler := .hunting, buffer := [],
      broken := false, busy := false, busySince := none, busyUnits := 0 }
    let u : State := { s with free := s.free + 1 }
    (f = testFrame s.settings.station s.startup.expected → s.startup.expected < 3 →
      SettledFrom { u with
        startup := { s.startup with expected := s.startup.expected + 1 },
        link := { s.link with
          busy := true, busySince := some ⟨s.partTime, s.subTime⟩,
          busyUnits := (Config.frameTakeUnits s.free).val } } (s.acceptFrame f)) ∧
    (f = testFrame s.settings.station s.startup.expected → s.startup.expected = 3 →
      SettledFrom { u with
        station := .listen,
        startup := { s.startup with
          selfTestTimer := none, expected := 0, handed := 0, joinTimer := some ⟨s.partTime, 3000⟩ },
        scan := { s.scan with timer := some ⟨s.partTime, s.settings.scanPeriod⟩ },
        link := { released s.link with receiveEnable := true, rdyOut := true },
        channel := if s.pins.cdIn = true then { s.channel with carrierWatch := some ⟨s.partTime, 2000⟩ }
          else s.channel } (s.acceptFrame f)) ∧
    (f ≠ testFrame s.settings.station s.startup.expected →
      SettledFrom { u with
        station := .halted,
        startup := { s.startup with
          haltReason := some .linktest, read := .stopped, readTimer := none, selfTestTimer := none, expected := 0,
          handed := 0 },
        link := released s.link } (s.acceptFrame f))

/-- GAP_TIMEOUT and FRAME_TAKEN_BY_BLOCKS (R144, R139): inside a frame, with the FIFO empty and more than three character
times since last arrival, the frame in assembly is discarded; the blocks' taking ends assembler busy.
That a discard leaves the broken mark no is the model's choice (log entry 32). That no instant and a span of 0 are
held while no frame is taken is the model's too (log entry 4). -/
def Obligations.GapDiscardsAndBlocksRelease : Prop :=
  ∀ (s : State),
    (∀ a, s.link.assembler ≠ .hunting → s.link.fifo = [] → s.link.lastArrival = some a →
      3 * s.rate.characterUnits < unitsBetween ⟨s.partTime, s.subTime⟩ a →
        exec .gapTimeout s = next { s with link := { s.link with assembler := .hunting, buffer := [], broken := false } }) ∧
    ((s.link.assembler = .hunting ∨ s.link.fifo ≠ []) → exec .gapTimeout s = next s) ∧
    exec .frameTakenByBlocks s = next { s with link := { s.link with
      busy := false, busySince := none, busyUnits := 0 } }

/-- TXD (R136, R148, R152) rests high, and drives the start bit low, eight data bits, least significant first, and the
stop bit high, all inverted with the option; it rests while no character is sent and in loopback.
CHARACTER_SENT (R148, R149, R129): on the line, when ten bit times have passed since its start, the next character
starts, or is HELD for CS_IN with the stall timer at 500 ms; after the last one the transmitter is IDLE, no frame is on
the line, and the carrier watch starts afresh when CD_IN is active on the face. In loopback (R152, R178), timed at 57 600
baud, each character joins the FIFO without the own-send mark, and after a test frame the next one is handed, up to the
third, whatever CS_IN is.
What SettledFrom leaves open is the settling at the end of the command (the model's choice, log entry 13).
The operand says that CS_IN has fallen since it last became active: its level follows in every case (the model's choice,
log entry 7). -/
def Obligations.CharacterSentGoesOn : Prop :=
  (∀ s : State,
    let inverted := s.settings.txdInverted
    s.txdRest = (!inverted) ∧
    (s.link.transmitter ≠ .sending ∨ s.link.loopback = true ∨ s.link.onLine = none → s.txdCharacter = none) ∧
    (∀ f, s.link.transmitter = .sending → s.link.loopback = false → s.link.onLine = some f →
      ∃ levels, s.txdCharacter = some levels ∧ levels.getLsbD 0 = inverted ∧ levels.getLsbD 9 = (!inverted) ∧
        ∀ i, i < 8 → levels.getLsbD (i + 1) = ((f.characters.getD f.sent 0).getLsbD i != inverted))) ∧
  ∀ (fell : Bool) (f : OnLine) (c : Instant) (s : State), s.link.transmitter = .sending →
    s.link.onLine = some f → s.link.charStart = some c →
    let pins := { s.pins with csIn := s.pins.csIn && !fell }
    (s.link.loopback = true → 100 ≤ unitsBetween ⟨s.partTime, s.subTime⟩ c → s.link.fifo.length < 64 →
      let gap : Bool := match s.link.lastArrival with
        | none => false
        | some a => decide (300 < unitsBetween ⟨s.partTime, s.subTime⟩ a)
      let l : LinkPort := { s.link with
        fifo := s.link.fifo ++ [⟨f.characters.getD f.sent 0, gap, s.link.lossPending, false⟩],
        lossPending := false, rdyOut := if s.link.fifo.length = 47 then false else s.link.rdyOut,
        lastArrival := some ⟨s.partTime, s.subTime⟩ }
      (f.sent + 1 < f.characters.length →
        exec (.characterSent fell) s = next { s with pins := pins, link := { l with
          onLine := some ⟨f.characters, f.sent + 1⟩, charStart := some ⟨s.partTime, s.subTime⟩, stallTimer := none } }) ∧
      (f.characters.length ≤ f.sent + 1 → s.startup.handed < 3 →
        exec (.characterSent fell) s = next { s with
          pins := pins,
          startup := { s.startup with handed := s.startup.handed + 1 },
          link := { l with
            onLine := some ⟨lineCharacters (testFrame s.settings.station (s.startup.handed + 1)), 0⟩,
            charStart := some ⟨s.partTime, s.subTime⟩, stallTimer := none } }) ∧
      (f.characters.length ≤ f.sent + 1 → 3 ≤ s.startup.handed →
        exec (.characterSent fell) s = next { s with
          pins := pins,
          link := { l with transmitter := .idle, onLine := none, charStart := none, stallTimer := none } })) ∧
    (s.link.loopback = false →
    s.settings.rate.characterUnits ≤ unitsBetween ⟨s.partTime, s.subTime⟩ c →
      (f.sent + 1 < f.characters.length →
        exec (.characterSent fell) s = next { s with
          pins := pins,
          link := { s.link with
            onLine := some ⟨f.characters, f.sent + 1⟩,
            transmitter := if pins.csIn then .sending else .held,
            charStart := if pins.csIn then some ⟨s.partTime, s.subTime⟩ else none,
            stallTimer := if pins.csIn then none else some ⟨s.partTime, 500⟩ } }) ∧
      (f.characters.length ≤ f.sent + 1 →
        ∃ t, exec (.characterSent fell) s = next t ∧ SettledFrom { s with
          pins := pins,
          link := { s.link with transmitter := .idle, onLine := none, charStart := none, stallTimer := none },
          channel := { s.channel with
            frameOnLine := false,
            carrierWatch := if s.station.onFace && s.pins.cdIn then some ⟨s.partTime, 2000⟩ else none } } t))

/-- CS_IN_ACTIVE and STALL_TIMER_EXPIRY (R149, R150, R133): outside LISTEN, ACTIVE and SILENT CS_IN active changes its
level only; there it resumes a HELD frame where it
stopped and ends a reported stall; a frame held 500 ms is abandoned, and the first stall of a CS_IN-inactive period is
reported, then the end.
What SettledFrom leaves open is the settling at the end of the command (the model's choice, log entry 13). -/
def Obligations.StallBeginsAndEnds : Prop :=
  ∀ (s : State),
    (s.station.onFace = false → exec .csInActive s = next { s with pins := { s.pins with csIn := true } }) ∧
    (s.station.onFace = true → ∃ t, exec .csInActive s = next t ∧ SettledFrom { s with
      pins := { s.pins with csIn := true },
      link := { s.link with
        transmitter := if s.link.transmitter = .held then .sending else s.link.transmitter,
        charStart := if s.link.transmitter = .held then some ⟨s.partTime, s.subTime⟩ else s.link.charStart,
        stallTimer := if s.link.transmitter = .held then none else s.link.stallTimer,
        stallReported := false },
      channel := if s.link.stallReported then { s.channel with sendStall := false } else s.channel,
      panel := if s.link.stallReported then s.panel.report .channel s.channel.carrierStuck else s.panel } t) ∧
    (∀ tm, s.station.onFace = true → s.link.transmitter = .held → s.link.stallTimer = some tm →
      tm.run ≤ (s.partTime - tm.start).toNat → ∃ t, exec .stallTimerExpiry s = next t ∧ SettledFrom { s with
        link := { s.link with
          transmitter := .idle, onLine := none, charStart := none, stallTimer := none, stallReported := true },
        channel := { s.channel with
          frameOnLine := false, sendStall := if s.link.stallReported then s.channel.sendStall else true,
          carrierWatch := if s.pins.cdIn then some ⟨s.partTime, 2000⟩ else none },
        panel := if s.link.stallReported then s.panel else s.panel.report .channel true } t)

/-- The check and the stuffing (R140, R141): the check starts at 0xFFFF and takes each byte into its high half, then
shifts eight times with the polynomial 0x1021; that of the nine characters 1 to 9 is 0x29B1; it goes out high byte first
behind the frame, the whole stuffed, between the start character 0xF1 and the end character 0xF2; no stuffed byte is a
start or end character. A received slot is the slot that was sent (R24, R182): the fields of a pass notice, and of each
slot of a beacon part, come back from the frame the part builds. The bytes of a pass notice and of a beacon part as they
are built (R122, R124, R182): version 1, kind, this station, sender kind 1, the sequence, the payload length, then the
fields of chapter 11.1 at their offsets, 0 in every reserved bit and byte. -/
def Obligations.FrameEncoding : Prop :=
  (crc16 [] = 0xFFFF#16 ∧
   (∀ (bytes : List Byte) (b : Byte),
     let shift := fun r : BitVec 16 => if r.msb = true then (r <<< 1) ^^^ 0x1021#16 else r <<< 1
     crc16 (bytes ++ [b]) =
       shift (shift (shift (shift (shift (shift (shift (shift (crc16 bytes ^^^ (b.setWidth 16 <<< 8)))))))))) ∧
   crc16 [0x31, 0x32, 0x33, 0x34, 0x35, 0x36, 0x37, 0x38, 0x39] = 0x29B1#16 ∧
   startCharacter = 0xF1 ∧ endCharacter = 0xF2 ∧ escapeCharacter = 0xF0 ∧
   (∀ bytes : List Byte, checkBytes bytes = [(crc16 bytes).extractLsb' 8 8, (crc16 bytes).extractLsb' 0 8]) ∧
   (∀ body : List Byte, lineCharacters body = 0xF1 :: (stuff (body ++ checkBytes body) ++ [0xF2])) ∧
   (∀ bytes : List Byte, stuff bytes = bytes.flatMap stuffByte) ∧
   (∀ bytes : List Byte, startCharacter ∉ stuff bytes ∧ endCharacter ∉ stuff bytes) ∧
   (∀ b : Byte, stuffByte b = if b = 0xF0 then [0xF0, 0xE0] else if b = 0xF1 then [0xF0, 0xE1]
     else if b = 0xF2 then [0xF0, 0xE2] else [b])) ∧
  ((∀ (station : Nat) (q : Byte) (e : Slot), e.truck < 256 → e.epoch < 256 → e.revision < 256 → e.passes < 256 →
     e.unweighed < 256 → e.mass < 65536 → station < 256 →
       slotAt (Notice.frame station ⟨e, q⟩) 0 = e ∧ frameSender (Notice.frame station ⟨e, q⟩) = station ∧
         frameKind (Notice.frame station ⟨e, q⟩) = 3 ∧ (Notice.frame station ⟨e, q⟩).length = 14) ∧
   (∀ (station : Nat) (q : Byte) (e : Slot), Notice.frame station ⟨e, q⟩ =
     [1, 3, BitVec.ofNat 8 station, 1, q, 8, BitVec.ofNat 8 e.truck, BitVec.ofNat 8 e.epoch, BitVec.ofNat 8 e.revision,
       BitVec.ofNat 8 e.passes, BitVec.ofNat 8 e.unweighed, BitVec.ofNat 8 (e.mass / 256), BitVec.ofNat 8 e.mass, 0]) ∧
   (∀ (station : Nat) (p : BeaconPart), p.frame station =
     [1, 2, BitVec.ofNat 8 station, 1, p.sequence, 46, if p.weighing = true then 1 else 0, BitVec.ofNat 8 p.receiving,
       BitVec.ofNat 8 p.part, BitVec.ofNat 8 p.parts] ++ p.slots.flatMap fun e =>
         [BitVec.ofNat 8 e.truck, BitVec.ofNat 8 e.epoch, BitVec.ofNat 8 e.revision, BitVec.ofNat 8 e.passes,
           BitVec.ofNat 8 e.unweighed, BitVec.ofNat 8 (e.mass / 256), BitVec.ofNat 8 e.mass]) ∧
   (∀ (station : Nat) (p : BeaconPart), station < 256 → p.receiving < 256 → p.slots.length = 6 →
     (∀ e ∈ p.slots, e.truck < 256 ∧ e.epoch < 256 ∧ e.revision < 256 ∧ e.passes < 256 ∧ e.unweighed < 256 ∧
       e.mass < 65536) →
       partSlots (p.frame station) = p.slots ∧ partWeighing (p.frame station) = p.weighing ∧
         frameSequence (p.frame station) = p.sequence ∧ frameSender (p.frame station) = station ∧
         frameKind (p.frame station) = 2 ∧ (p.frame station).length = 52))

/-- What is sent is what is received (R140 to R146): the characters of a frame, taken by an assembler in any state,
complete exactly that frame when its header and length are good, whatever its bytes, and leave the assembler outside a
frame with an empty buffer.
That the broken mark is no at a frame's end is the model's choice (log entry 32). -/
def Obligations.SentFramesAssembleAgain : Prop :=
  ∀ (body : List Byte) (n : Nat) (l : LinkPort), 6 ≤ body.length → byteAt body 0 = 1 →
    payloadLength (frameKind body) = some n → byteAt body 5 = n → body.length = 6 + n →
      l.feed (lineCharacters body) = ({ l with assembler := .hunting, buffer := [], broken := false }, [body])

/-! ## Panel transfer -/

/-- ACCEPT (R158, R159): with no transfer in flight it is stray and changes nothing; else the transfer ends, display
fault is cleared, and the lowest pending field is sent next, outside RESET. ACCEPTANCE_TIMER_EXPIRY and
RETRY_PAUSE_EXPIRY (R158, R160): 50 ms without an ACCEPT remove the transfer, set display fault, make every field
pending and start a pause of 1000 ms; its end starts a transfer of field 0. The panel lines (R161): low between
transfers; a transfer carries the field number in one byte and then its text, each byte most significant bit first. -/
def Obligations.PanelTransfersEnd : Prop :=
  (∀ (s : State),
     (s.panel.transfer = none → exec .accept s = next s) ∧
     (∀ x, s.panel.transfer = some x → s.station ≠ .reset → s.panel.retryPause = none →
       ((∀ c ∈ s.panel.fields, c.pending = false) →
         exec .accept s = next { s with panel := { s.panel with transfer := none, displayFault := false } }) ∧
       (∀ before after c, s.panel.fields = before ++ c :: after → c.pending = true →
         (∀ d ∈ before, d.pending = false) →
           exec .accept s = next { s with panel := { s.panel with
             fields := before ++ { c with pending := false } :: after, displayFault := false,
             transfer := some ⟨before.length, c.text, ⟨s.partTime, 50⟩⟩ } }))) ∧
  (∀ (s : State),
     (∀ x, s.panel.transfer = some x → x.timer.run ≤ (s.partTime - x.timer.start).toNat →
       exec .acceptanceTimerExpiry s = next { s with panel := { s.panel with
         transfer := none, displayFault := true, retryPause := some ⟨s.partTime, 1000⟩,
         fields := s.panel.fields.map fun c => { c with pending := true } } }) ∧
     (∀ tm c rest, s.station ≠ .reset → s.panel.retryPause = some tm → tm.run ≤ (s.partTime - tm.start).toNat →
       s.panel.transfer = none → s.panel.fields = c :: rest → c.pending = true →
         exec .retryPauseExpiry s = next { s with panel := { s.panel with
           retryPause := none, fields := { c with pending := false } :: rest,
           transfer := some ⟨0, c.text, ⟨s.partTime, 50⟩⟩ } })) ∧
  (∀ (s : State),
     (s.panel.transfer = none → s.panelLines = some ⟨false, false⟩ ∧ s.pnlBits = []) ∧
     (∀ x, s.panel.transfer = some x →
       s.pnlBits = (BitVec.ofNat 8 x.field :: x.text).flatMap fun b =>
         [b.getLsbD 7, b.getLsbD 6, b.getLsbD 5, b.getLsbD 4, b.getLsbD 3, b.getLsbD 2, b.getLsbD 1, b.getLsbD 0]))

/-- Each latch is its own: setting one changes no other. An event alert (R166, R170): a raise latches it, marks it
raised in the freeze that names it, and leaves every other alert; its latch goes only when an ACK key that is DOWN comes
up, and at device reset. A report of a state alert's condition (R167): arising, it latches an alert that is clear,
unacknowledged, and one that is latched stays; ending, it clears a latch that is acknowledged and leaves the others; a
report that is no change does nothing. Ranking (R168): with no freeze and outside HALTED, the alert line is the line
text of the first alert, in the table's order, that is latched and not acknowledged, and blank when there is none; under
a freeze it keeps its text. The alert that a freeze names (R169) is the one whose line text the line shows, and none
when it shows none of them. -/
def Obligations.EventAlertsWaitForAck : Prop :=
  (∀ a : Alerts,
    (a.stateLatch .conflict = a.conflict ∧ a.stateLatch .sensor = a.sensor ∧ a.stateLatch .channel = a.channel ∧
      a.stateLatch .overload = a.overload ∧ a.stateLatch .config = a.config) ∧
    (a.eventLatch .table = a.table ∧ a.eventLatch .unweighed = a.unweighed ∧ a.eventLatch .tare = a.tare) ∧
    (∀ j k l, (a.setState k l).stateLatch j = (if j = k then l else a.stateLatch j) ∧
      (a.setState k l).eventLatch = a.eventLatch ∧ (a.setState k l).freeze = a.freeze) ∧
    ∀ j k l, (a.setEvent k l).eventLatch j = (if j = k then l else a.eventLatch j) ∧
      (a.setEvent k l).stateLatch = a.stateLatch ∧ (a.setEvent k l).freeze = a.freeze) ∧
  (∀ (c : Instr) (a : EventAlert) (s t : State), exec c s = next t → (s.panel.alerts.eventLatch a).latched = true →
    (∀ cause, c ≠ .deviceReset cause) → ¬ (c = .keyDebounceExpiry .ack ∧ s.panel.keys.ack ≠ .up) →
    (t.panel.alerts.eventLatch a).latched = true) ∧
  (∀ (a : EventAlert) (p : CabPanel),
    p.raise a = { p with alerts := p.alerts.setEvent a ⟨true,
      (p.alerts.eventLatch a).raisedInFreeze || p.alerts.freeze == some (.shown (.event a))⟩ }) ∧
  (∀ (k : StateAlert) (holds : Bool) (p : CabPanel),
    let before := p.alerts.stateLatch k
    let after : StateLatch :=
      if holds = before.condition then before
      else if holds then (if before.latched then { before with condition := true } else ⟨true, false, true⟩)
      else if before.latched && before.acknowledged then ⟨false, false, false⟩
      else { before with condition := false }
    p.report k holds = { p with alerts := p.alerts.setState k after }) ∧
  (let line : Alert → Text := fun
    | .state .conflict => textOf ['C', 'O', 'N', 'F', 'L', 'I', 'C', 'T']
    | .state .sensor => textOf ['S', 'E', 'N', 'S', 'O', 'R', ' ', ' ']
    | .state .channel => textOf ['C', 'H', 'A', 'N', 'N', 'E', 'L', ' ']
    | .state .overload => textOf ['O', 'V', 'E', 'R', 'L', 'O', 'A', 'D']
    | .event .table => textOf ['T', 'A', 'B', 'L', 'E', ' ', ' ', ' ']
    | .event .unweighed => textOf ['N', 'O', ' ', 'W', 'E', 'I', 'G', 'H']
    | .event .tare => textOf ['T', 'A', 'R', 'E', ' ', ' ', ' ', ' ']
    | .state .config => textOf ['C', 'O', 'N', 'F', 'I', 'G', ' ', ' ']
  (∀ s : State, s.station ≠ .halted → s.panel.alerts.freeze = none →
    let a := s.panel.alerts
    let wanted := fun l : StateLatch => l.latched = true ∧ l.acknowledged = false
    fieldText s 1 =
      if wanted a.conflict then line (.state .conflict)
      else if wanted a.sensor then line (.state .sensor)
      else if wanted a.channel then line (.state .channel)
      else if wanted a.overload then line (.state .overload)
      else if a.table.latched then line (.event .table)
      else if a.unweighed.latched then line (.event .unweighed)
      else if a.tare.latched then line (.event .tare)
      else if wanted a.config then line (.state .config)
      else List.replicate 8 0x20) ∧
  (∀ (s : State) (c : FieldCell), s.station ≠ .halted → s.panel.alerts.freeze ≠ none → s.panel.fields[1]? = some c →
    c.text.length = 8 → fieldText s 1 = c.text) ∧
  (∀ (p : CabPanel) (c : FieldCell), p.fields[1]? = some c →
    (∀ a, p.lineAlert = .shown a ↔ c.text = line a) ∧ (p.lineAlert = .noneShown ↔ ∀ a, c.text ≠ line a)))

/-! ## Invariants that every step keeps -/

/-- The reset state satisfies every invariant below. -/
def Obligations.ResetSatisfiesTheInvariants : Prop :=
  State.reset.LinkBounded ∧ State.reset.QueueBounded ∧ State.reset.trucks.Sound ∧ State.reset.tally.Bounded ∧
    State.reset.RecordsOpen ∧ State.reset.RosterBounded ∧ State.reset.cycle.Sound ∧ State.reset.cycle.Numbered ∧
    State.reset.scan.Bounded ∧ State.reset.panel.Shaped ∧ State.reset.EmptyOffFace ∧
    State.reset.LinkFollowsStation ∧ State.reset.QueueOnlyActive ∧ State.reset.WeighFollows ∧
    State.reset.ZeroBelowSpan ∧ State.reset.ConditionsReported ∧ State.reset.OverloadReported ∧
    State.reset.DisplayCurrent ∧ State.reset.TransfersRun ∧ State.reset.HoldOffRuns ∧ State.reset.OwnNotInRoster ∧
    State.reset.subTime < 576

/-- Every step keeps the bounds of the FIFO, the frame buffer and the transmit queue (R123, R125, R126, R137, R142).
Every step keeps the roster's limits and this station's own number out of it, the scan port's counts, the sixteen fields
of eight characters, the pass list and the numbering (R47, R86, R92, R95, R96, R104, R154); the numbering up to the
cycles limit. It keeps the part of a millisecond below 576 units (the model's time, log entry 1). -/
def Obligations.StepKeepsBounds : Prop :=
  (∀ s t : State, s.LinkBounded → s.QueueBounded → step s = next t → t.LinkBounded ∧ t.QueueBounded) ∧
  (∀ s t : State, step s = next t →
     (s.RosterBounded → t.RosterBounded) ∧ (s.scan.Bounded → t.scan.Bounded) ∧ (s.panel.Shaped → t.panel.Shaped) ∧
     (s.cycle.Sound → t.cycle.Sound) ∧ (s.subTime < 576 → t.subTime < 576) ∧
     (s.EmptyOffFace → s.OwnNotInRoster → t.OwnNotInRoster) ∧
     (s.cycle.Sound → s.cycle.Numbered → s.cycle.cycles < 4294967295 → t.cycle.Numbered))

/-- Every step keeps the truck table, the spot queue and the pin sound (R1, R9, R13, R15, R18). -/
def Obligations.StepKeepsTheTruckTable : Prop :=
  ∀ s t : State, s.trucks.Sound → step s = next t → t.trucks.Sound

/-- Every step keeps the contribution table's limits and keys, and every record's load open in the truck table, and no
record's revision decreases while the record exists (R23). -/
def Obligations.StepKeepsRecordsOpen : Prop :=
  ∀ s t : State, s.trucks.Sound → s.tally.Bounded → s.RecordsOpen → step s = next t →
    t.tally.Bounded ∧ t.RecordsOpen ∧
      ∀ r ∈ s.tally.records, ∀ q ∈ t.tally.records,
        q.contributor = r.contributor → q.truck = r.truck → q.epoch = r.epoch → r.revision ≤ q.revision

/-- Every step keeps the blocks as the station state has them (R119, R131, R135, R148, R152, and the table of chapter
10). -/
def Obligations.StepKeepsTheModes : Prop :=
  ∀ s t : State, s.EmptyOffFace → s.LinkFollowsStation → s.QueueOnlyActive → step s = next t →
    t.EmptyOffFace ∧ t.LinkFollowsStation ∧ t.QueueOnlyActive

/-- Every step keeps the weigh unit consistent, BLOCKED exactly while sensor fault is set, a tare in EMPTY only, and the
zero force below the span force (R60, R61, R66, R73, R81, R82, R85). -/
def Obligations.StepKeepsTheWeighUnit : Prop :=
  ∀ s t : State, s.WeighFollows → s.ZeroBelowSpan → step s = next t → t.WeighFollows ∧ t.ZeroBelowSpan

/-- Every step keeps the condition copies equal to the conditions: SENSOR, CHANNEL, CONFLICT and OVERLOAD, and CONFIG
from the validation that took defaults on (R41, R59, R117, R133, R167, R175). -/
def Obligations.StepKeepsConditionsReported : Prop :=
  ∀ s t : State, s.EmptyOffFace → s.ConditionsReported → s.OverloadReported → step s = next t →
    t.ConditionsReported ∧ t.OverloadReported

/-- Every step leaves every field's current text as its supplier gives it (R156, R157, R168), and the suppliers give the
texts of chapter 9.2 (R155), with numbers in decimal, masses in tonnes to one decimal by truncation, the station status
and the halted display (R157), the held result's or the newest pass's mass, fill and quality (R74, R98), the receiving
truck (R20), its payload, target, remaining and passes (R42, R40), the partner with its mark (R56), the cycles (R98),
the shift mass (R46), the last load (R44), the material (R164) and the trucks waiting (R13), each padded to eight
characters. Field 1 outside HALTED is EventAlertsWaitForAck's. The sign of a remaining mass that shows as 0.0 and is not
above 0 is a free value (log entry 18). That every command hands every text at its end is the model's choice (log entry
13). -/
def Obligations.StepKeepsTheDisplayCurrent : Prop :=
  (∀ s t : State, s.DisplayCurrent → step s = next t → t.DisplayCurrent) ∧
  ((∀ n, n < 10 → decimal n = [BitVec.ofNat 8 (0x30 + n)]) ∧
   (∀ n, 10 ≤ n → n < 10 ^ 20 → decimal n = decimal (n / 10) ++ [BitVec.ofNat 8 (0x30 + n % 10)]) ∧
   (∀ n, tonnes n = decimal (n / 100) ++ textOf ['.'] ++ decimal (n / 10 % 10)) ∧
   ∀ cs : List Char, textOf cs = cs.map fun c => BitVec.ofNat 8 c.toNat) ∧
  (∀ s : State,
    let pad := fun t : Text => (t ++ List.replicate 8 0x20).take 8
    let shows := fun (field : Nat) (t : Text) => fieldText s field = pad t
    let dashes := textOf ['-', '-', '-']
    let quality := fun q : Quality => match q with
      | .good => textOf ['G', 'O', 'O', 'D']
      | .retaken => textOf ['R', 'E', 'T', 'A', 'K', 'E', 'N']
      | .short => textOf ['S', 'H', 'O', 'R', 'T']
      | .tilted => textOf ['T', 'I', 'L', 'T', 'E', 'D']
      | .unstable => textOf ['U', 'N', 'S', 'T', 'A', 'B', 'L', 'E']
      | .none => textOf ['N', 'O', 'N', 'E']
    let mass := fun m : Option Nat => match m with
      | some n => tonnes n
      | none => dashes
    let fill := fun f : Option Nat => match f with
      | some n => decimal n ++ textOf ['%']
      | none => dashes
    let receiving := s.trucks.pin.or s.trucks.queue.head?
    shows 0 (match s.station with
      | .reset => textOf ['S', 'T', 'A', 'R', 'T', 'I', 'N', 'G']
      | .configRead => textOf ['S', 'T', 'A', 'R', 'T', 'I', 'N', 'G']
      | .selfTest => textOf ['S', 'E', 'L', 'F', 'T', 'E', 'S', 'T']
      | .listen => textOf ['L', 'I', 'S', 'T', 'E', 'N']
      | .active => textOf ['A', 'C', 'T', 'I', 'V', 'E']
      | .silent => textOf ['S', 'I', 'L', 'E', 'N', 'T']
      | .halted => textOf ['H', 'A', 'L', 'T', 'E', 'D']) ∧
    (s.station = .halted →
      (s.startup.haltReason = some .config → shows 1 (textOf ['C', 'O', 'N', 'F', 'I', 'G'])) ∧
      (s.startup.haltReason = some .linktest → shows 1 (textOf ['L', 'I', 'N', 'K', 'T', 'E', 'S', 'T'])) ∧
      ∀ i, 2 ≤ i → i < 16 → shows i []) ∧
    (s.station ≠ .halted →
      (∀ h, s.weigh.held = some h → shows 2 (mass h.mass) ∧ shows 3 (fill (s.fill h.mass)) ∧ shows 4 (quality h.quality)) ∧
      (∀ before p, s.weigh.held = none → s.cycle.passes = before ++ [p] → shows 2 (mass p.mass) ∧ shows 3 (fill p.fill) ∧
        shows 4 (if p.voided then textOf ['V', 'O', 'I', 'D'] else quality p.quality)) ∧
      (s.weigh.held = none → s.cycle.passes = [] → shows 2 [] ∧ shows 3 [] ∧ shows 4 []) ∧
      (∀ n, receiving = some n →
        shows 5 (textOf ['T'] ++ decimal n ++ if s.trucks.pin = none then [] else textOf [' ', 'P', 'I', 'N'])) ∧
      (receiving = none → shows 5 (textOf ['N', 'O', ' ', 'T', 'R', 'U', 'C', 'K']) ∧ shows 6 dashes ∧ shows 7 dashes ∧
        shows 8 dashes ∧ shows 9 dashes ∧ shows 10 (textOf ['-', '-'])) ∧
      (∀ n e, receiving = some n → s.trucks.find n = some e →
        let rs := s.tally.records.filter fun r => r.truck == e.truck && r.epoch == e.epoch
        let total := (rs.map (·.mass)).sum
        let passes := decimal ((rs.map (·.passes)).sum) ++ textOf ['/']
        let approximate := 0 < (rs.map (·.unweighed)).sum ∨ e.peerDropped = true ∨
          (∃ r ∈ rs, r.own = false ∧ ∃ x, rosterFind s.roster r.contributor = some x ∧ x.weighing = some false) ∨
          ((∃ r ∈ rs, r.own = true) ∧ s.weigh.state = .blocked)
        (approximate → shows 6 (tonnes total ++ textOf ['~'])) ∧ (¬ approximate → shows 6 (tonnes total)) ∧
        (e.target = 0 → shows 7 dashes ∧ shows 8 dashes) ∧
        (e.target ≠ 0 → shows 7 (tonnes e.target)) ∧
        (total < e.target → shows 8 (textOf ['+'] ++ tonnes (e.target - total))) ∧
        (e.target ≠ 0 → e.target + 10 ≤ total → shows 8 (textOf ['-'] ++ tonnes (total - e.target))) ∧
        (e.target ≠ 0 → e.target ≤ total → total < e.target + 10 →
          shows 8 (textOf ['+', '0', '.', '0']) ∨ shows 8 (textOf ['-', '0', '.', '0'])) ∧
        (∀ r, rs.find? (·.own) = some r → shows 9 (passes ++ decimal r.passes)) ∧
        (rs.find? (·.own) = none → shows 9 (passes ++ decimal 0)) ∧
        ((∀ l ∈ e.spottedAt, l = s.settings.station) → shows 10 (textOf ['-', '-'])) ∧
        ∀ l, e.spottedAt.find? (· != s.settings.station) = some l →
          (∀ x, rosterFind s.roster l = some x → x.state = .live → (∀ t, x.receiving = some t → t = receiving) →
            shows 10 (decimal l)) ∧
          (∀ x t, rosterFind s.roster l = some x → x.state = .live → x.receiving = some t → t ≠ receiving →
            shows 10 (decimal l ++ textOf ['*'])) ∧
          ((∀ x, rosterFind s.roster l = some x → x.state ≠ .live) → shows 10 (decimal l ++ textOf ['?']))) ∧
      shows 11 (decimal (min s.cycle.cycles 65535) ++ textOf ['/'] ++ decimal (min s.cycle.abandoned 99)) ∧
      shows 12 (tonnes (min (s.tally.shift.ownMass + s.tally.shift.pileMass) 9999999)) ∧
      (∀ before after c, s.tally.log = before ++ c :: after → 0 < c.ownPasses → (∀ d ∈ after, d.ownPasses = 0) →
        shows 13 (decimal c.truck ++ textOf [':'] ++ tonnes c.ownMass)) ∧
      ((∀ c ∈ s.tally.log, c.ownPasses = 0) → shows 13 dashes) ∧
      (∀ x, s.settings.materials[s.panel.material]? = some x → shows 14 x.name) ∧
      (s.settings.materials[s.panel.material]? = none → shows 14 []) ∧
      shows 15 (textOf ['Q', ' '] ++ decimal s.trucks.queue.length)))

/-- Every step leaves a panel transfer or the retry pause behind every pending field, and a running hold-off behind
every frame that may be sent (R127, R158). The panel: a field whose text changes is pending or in the transfer with that
text (R156), and so is one that was pending; a transfer in flight stays as it is but for ACCEPT, the acceptance timer's
expiry and device reset. The handing of texts: each field that is handed a text that differs takes it and is pending,
every other field stays; with no transfer in flight and no retry pause the lowest pending field is sent, with an
acceptance timer of 50 ms (R156, R158). That the settling hands every text, in field order, is the model's choice (log
entry 13). The hold-off (R127, R128, R131, R55): one that starts runs from now for 10 ms plus 4 ms for each LIVE entry
with a lower number than this station's; one that runs keeps its start and its run until CD_IN rises, it expires, or
ACTIVE is left. That the count is not held to 11 is the model's choice (log entry 31). -/
def Obligations.StepKeepsTransfersRunning : Prop :=
  (∀ s t : State, step s = next t → (s.TransfersRun → t.TransfersRun) ∧ (s.HoldOffRuns → t.HoldOffRuns)) ∧
  (∀ (c : Instr) (s t : State), exec c s = next t →
    (∀ i before after, s.panel.fields[i]? = some before → t.panel.fields[i]? = some after →
      before.text ≠ after.text ∨ before.pending = true →
        after.pending = true ∨ ((s.panel.transfer = none ∨ c = .accept) ∧
          ∃ x, t.panel.transfer = some x ∧ x.field = i ∧ x.text = after.text)) ∧
    (∀ x, s.panel.transfer = some x → c ≠ .accept → c ≠ .acceptanceTimerExpiry → (∀ cause, c ≠ .deviceReset cause) →
      t.panel.transfer = some x) ∧
    (∀ tm, t.channel.holdOff = some tm → s.channel.holdOff = some tm ∨
      (s.channel.holdOff = none ∧ t.station = .active ∧ tm = ⟨t.partTime,
        10 + 4 * t.roster.countP fun e => decide (e.state = .live ∧ e.loader < t.settings.station)⟩)) ∧
    (∀ tm, s.channel.holdOff = some tm → t.channel.holdOff = some tm ∨
      (t.channel.holdOff = none ∧ (t.station ≠ .active ∨ (c = .carrierRise ∧ s.pins.cdIn = false) ∨
        ∃ fell, c = .holdOffExpiry fell ∧ tm.run ≤ (s.partTime - tm.start).toNat)))) ∧
  (∀ (handed : Nat → Bool) (s : State), s.station ≠ .reset →
    let cells := s.panel.fields.mapIdx fun i a =>
      if handed i = true ∧ fieldText s i ≠ a.text then ⟨fieldText s i, true⟩ else a
    (s.panel.transfer ≠ none ∨ s.panel.retryPause ≠ none ∨ (∀ a ∈ cells, a.pending = false) →
      s.handWhere handed = { s with panel := { s.panel with fields := cells } }) ∧
    (∀ before after a, s.panel.transfer = none → s.panel.retryPause = none → cells = before ++ a :: after →
      a.pending = true → (∀ d ∈ before, d.pending = false) →
        s.handWhere handed = { s with panel := { s.panel with
          fields := before ++ { a with pending := false } :: after,
          transfer := some ⟨before.length, a.text, ⟨s.partTime, 50⟩⟩ } })) ∧
  ∀ s : State,
    let holdOff := if s.station = .active ∧ (s.channel.notices ≠ [] ∨ s.channel.parts ≠ []) ∧
        s.channel.frameOnLine = false ∧ s.pins.cdIn = false ∧ s.channel.holdOff = none then
      some ⟨s.partTime, 10 + 4 * s.roster.countP fun e => decide (e.state = .live ∧ e.loader < s.settings.station)⟩
      else s.channel.holdOff
    s.settle = ({ s with channel := { s.channel with holdOff := holdOff } } : State).showTexts ∧
      s.showTexts = s.handWhere fun _ => true
end

