-- ==== Sys2Proof/Decode.lean ====
section
/-! DEFINITION. The words of the table: no row of spec/opcode_table.json gives a command bits. -/

namespace Sys2Proof

/-- The command a word spells: none for every word, since no row of the table has bits (log entry 5). -/
def decodeTableWord (_nbits _w : Nat) : Option Instr := none

end Sys2Proof
end

