-- ==== Sys2Proof/Laws/State.lean ====
section
/-! SUPPORT. One lemma per field of State for each of its named updates, all by rfl. -/

namespace Sys2Proof.Machine

variable (s : State)

/-! ### State.report -/

@[simp] theorem State.report_pending (k : StateAlert) (h : Bool) : (s.report k h).pending = s.pending := rfl
@[simp] theorem State.report_pins (k : StateAlert) (h : Bool) : (s.report k h).pins = s.pins := rfl
@[simp] theorem State.report_station (k : StateAlert) (h : Bool) : (s.report k h).station = s.station := rfl
@[simp] theorem State.report_partTime (k : StateAlert) (h : Bool) : (s.report k h).partTime = s.partTime := rfl
@[simp] theorem State.report_subTime (k : StateAlert) (h : Bool) : (s.report k h).subTime = s.subTime := rfl
@[simp] theorem State.report_startup (k : StateAlert) (h : Bool) : (s.report k h).startup = s.startup := rfl
@[simp] theorem State.report_settings (k : StateAlert) (h : Bool) : (s.report k h).settings = s.settings := rfl
@[simp] theorem State.report_scan (k : StateAlert) (h : Bool) : (s.report k h).scan = s.scan := rfl
@[simp] theorem State.report_cycle (k : StateAlert) (h : Bool) : (s.report k h).cycle = s.cycle := rfl
@[simp] theorem State.report_weigh (k : StateAlert) (h : Bool) : (s.report k h).weigh = s.weigh := rfl
@[simp] theorem State.report_trucks (k : StateAlert) (h : Bool) : (s.report k h).trucks = s.trucks := rfl
@[simp] theorem State.report_tally (k : StateAlert) (h : Bool) : (s.report k h).tally = s.tally := rfl
@[simp] theorem State.report_roster (k : StateAlert) (h : Bool) : (s.report k h).roster = s.roster := rfl
@[simp] theorem State.report_channel (k : StateAlert) (h : Bool) : (s.report k h).channel = s.channel := rfl
@[simp] theorem State.report_link (k : StateAlert) (h : Bool) : (s.report k h).link = s.link := rfl
@[simp] theorem State.report_panel (k : StateAlert) (h : Bool) : (s.report k h).panel = s.panel.report k h := rfl
@[simp] theorem State.report_free (k : StateAlert) (h : Bool) : (s.report k h).free = s.free := rfl

/-! ### State.raise -/

@[simp] theorem State.raise_pending (k : EventAlert) : (s.raise k).pending = s.pending := rfl
@[simp] theorem State.raise_pins (k : EventAlert) : (s.raise k).pins = s.pins := rfl
@[simp] theorem State.raise_station (k : EventAlert) : (s.raise k).station = s.station := rfl
@[simp] theorem State.raise_partTime (k : EventAlert) : (s.raise k).partTime = s.partTime := rfl
@[simp] theorem State.raise_subTime (k : EventAlert) : (s.raise k).subTime = s.subTime := rfl
@[simp] theorem State.raise_startup (k : EventAlert) : (s.raise k).startup = s.startup := rfl
@[simp] theorem State.raise_settings (k : EventAlert) : (s.raise k).settings = s.settings := rfl
@[simp] theorem State.raise_scan (k : EventAlert) : (s.raise k).scan = s.scan := rfl
@[simp] theorem State.raise_cycle (k : EventAlert) : (s.raise k).cycle = s.cycle := rfl
@[simp] theorem State.raise_weigh (k : EventAlert) : (s.raise k).weigh = s.weigh := rfl
@[simp] theorem State.raise_trucks (k : EventAlert) : (s.raise k).trucks = s.trucks := rfl
@[simp] theorem State.raise_tally (k : EventAlert) : (s.raise k).tally = s.tally := rfl
@[simp] theorem State.raise_roster (k : EventAlert) : (s.raise k).roster = s.roster := rfl
@[simp] theorem State.raise_channel (k : EventAlert) : (s.raise k).channel = s.channel := rfl
@[simp] theorem State.raise_link (k : EventAlert) : (s.raise k).link = s.link := rfl
@[simp] theorem State.raise_panel (k : EventAlert) : (s.raise k).panel = s.panel.raise k := rfl
@[simp] theorem State.raise_free (k : EventAlert) : (s.raise k).free = s.free := rfl

/-! ### State.evalOverload -/

@[simp] theorem State.evalOverload_pending : (s.evalOverload).pending = s.pending := rfl
@[simp] theorem State.evalOverload_pins : (s.evalOverload).pins = s.pins := rfl
@[simp] theorem State.evalOverload_station : (s.evalOverload).station = s.station := rfl
@[simp] theorem State.evalOverload_partTime : (s.evalOverload).partTime = s.partTime := rfl
@[simp] theorem State.evalOverload_subTime : (s.evalOverload).subTime = s.subTime := rfl
@[simp] theorem State.evalOverload_startup : (s.evalOverload).startup = s.startup := rfl
@[simp] theorem State.evalOverload_settings : (s.evalOverload).settings = s.settings := rfl
@[simp] theorem State.evalOverload_scan : (s.evalOverload).scan = s.scan := rfl
@[simp] theorem State.evalOverload_cycle : (s.evalOverload).cycle = s.cycle := rfl
@[simp] theorem State.evalOverload_weigh : (s.evalOverload).weigh = s.weigh := rfl
@[simp] theorem State.evalOverload_trucks : (s.evalOverload).trucks = s.trucks := rfl
@[simp] theorem State.evalOverload_tally : (s.evalOverload).tally = s.tally := rfl
@[simp] theorem State.evalOverload_roster : (s.evalOverload).roster = s.roster := rfl
@[simp] theorem State.evalOverload_channel : (s.evalOverload).channel = s.channel := rfl
@[simp] theorem State.evalOverload_link : (s.evalOverload).link = s.link := rfl
@[simp] theorem State.evalOverload_panel : (s.evalOverload).panel = s.panel.report .overload s.overload := rfl
@[simp] theorem State.evalOverload_free : (s.evalOverload).free = s.free := rfl

/-! ### State.reportChannel -/

@[simp] theorem State.reportChannel_pending : (s.reportChannel).pending = s.pending := rfl
@[simp] theorem State.reportChannel_pins : (s.reportChannel).pins = s.pins := rfl
@[simp] theorem State.reportChannel_station : (s.reportChannel).station = s.station := rfl
@[simp] theorem State.reportChannel_partTime : (s.reportChannel).partTime = s.partTime := rfl
@[simp] theorem State.reportChannel_subTime : (s.reportChannel).subTime = s.subTime := rfl
@[simp] theorem State.reportChannel_startup : (s.reportChannel).startup = s.startup := rfl
@[simp] theorem State.reportChannel_settings : (s.reportChannel).settings = s.settings := rfl
@[simp] theorem State.reportChannel_scan : (s.reportChannel).scan = s.scan := rfl
@[simp] theorem State.reportChannel_cycle : (s.reportChannel).cycle = s.cycle := rfl
@[simp] theorem State.reportChannel_weigh : (s.reportChannel).weigh = s.weigh := rfl
@[simp] theorem State.reportChannel_trucks : (s.reportChannel).trucks = s.trucks := rfl
@[simp] theorem State.reportChannel_tally : (s.reportChannel).tally = s.tally := rfl
@[simp] theorem State.reportChannel_roster : (s.reportChannel).roster = s.roster := rfl
@[simp] theorem State.reportChannel_channel : (s.reportChannel).channel = s.channel := rfl
@[simp] theorem State.reportChannel_link : (s.reportChannel).link = s.link := rfl
@[simp] theorem State.reportChannel_panel : (s.reportChannel).panel = s.panel.report .channel s.channel.condition := rfl
@[simp] theorem State.reportChannel_free : (s.reportChannel).free = s.free := rfl

/-! ### State.withInFlight -/

@[simp] theorem State.withInFlight_pending (f : Option ScanInFlight) : (s.withInFlight f).pending = s.pending := rfl
@[simp] theorem State.withInFlight_pins (f : Option ScanInFlight) : (s.withInFlight f).pins = s.pins := rfl
@[simp] theorem State.withInFlight_station (f : Option ScanInFlight) : (s.withInFlight f).station = s.station := rfl
@[simp] theorem State.withInFlight_partTime (f : Option ScanInFlight) : (s.withInFlight f).partTime = s.partTime := rfl
@[simp] theorem State.withInFlight_subTime (f : Option ScanInFlight) : (s.withInFlight f).subTime = s.subTime := rfl
@[simp] theorem State.withInFlight_startup (f : Option ScanInFlight) : (s.withInFlight f).startup = s.startup := rfl
@[simp] theorem State.withInFlight_settings (f : Option ScanInFlight) : (s.withInFlight f).settings = s.settings := rfl
@[simp] theorem State.withInFlight_scan (f : Option ScanInFlight) : (s.withInFlight f).scan = { s.scan with inFlight := f } := rfl
@[simp] theorem State.withInFlight_cycle (f : Option ScanInFlight) : (s.withInFlight f).cycle = s.cycle := rfl
@[simp] theorem State.withInFlight_weigh (f : Option ScanInFlight) : (s.withInFlight f).weigh = s.weigh := rfl
@[simp] theorem State.withInFlight_trucks (f : Option ScanInFlight) : (s.withInFlight f).trucks = s.trucks := rfl
@[simp] theorem State.withInFlight_tally (f : Option ScanInFlight) : (s.withInFlight f).tally = s.tally := rfl
@[simp] theorem State.withInFlight_roster (f : Option ScanInFlight) : (s.withInFlight f).roster = s.roster := rfl
@[simp] theorem State.withInFlight_channel (f : Option ScanInFlight) : (s.withInFlight f).channel = s.channel := rfl
@[simp] theorem State.withInFlight_link (f : Option ScanInFlight) : (s.withInFlight f).link = s.link := rfl
@[simp] theorem State.withInFlight_panel (f : Option ScanInFlight) : (s.withInFlight f).panel = s.panel := rfl
@[simp] theorem State.withInFlight_free (f : Option ScanInFlight) : (s.withInFlight f).free = s.free := rfl

/-! ### State.withRecords -/

@[simp] theorem State.withRecords_pending (rs : List Contribution) : (s.withRecords rs).pending = s.pending := rfl
@[simp] theorem State.withRecords_pins (rs : List Contribution) : (s.withRecords rs).pins = s.pins := rfl
@[simp] theorem State.withRecords_station (rs : List Contribution) : (s.withRecords rs).station = s.station := rfl
@[simp] theorem State.withRecords_partTime (rs : List Contribution) : (s.withRecords rs).partTime = s.partTime := rfl
@[simp] theorem State.withRecords_subTime (rs : List Contribution) : (s.withRecords rs).subTime = s.subTime := rfl
@[simp] theorem State.withRecords_startup (rs : List Contribution) : (s.withRecords rs).startup = s.startup := rfl
@[simp] theorem State.withRecords_settings (rs : List Contribution) : (s.withRecords rs).settings = s.settings := rfl
@[simp] theorem State.withRecords_scan (rs : List Contribution) : (s.withRecords rs).scan = s.scan := rfl
@[simp] theorem State.withRecords_cycle (rs : List Contribution) : (s.withRecords rs).cycle = s.cycle := rfl
@[simp] theorem State.withRecords_weigh (rs : List Contribution) : (s.withRecords rs).weigh = s.weigh := rfl
@[simp] theorem State.withRecords_trucks (rs : List Contribution) : (s.withRecords rs).trucks = s.trucks := rfl
@[simp] theorem State.withRecords_tally (rs : List Contribution) : (s.withRecords rs).tally = { s.tally with records := rs } := rfl
@[simp] theorem State.withRecords_roster (rs : List Contribution) : (s.withRecords rs).roster = s.roster := rfl
@[simp] theorem State.withRecords_channel (rs : List Contribution) : (s.withRecords rs).channel = s.channel := rfl
@[simp] theorem State.withRecords_link (rs : List Contribution) : (s.withRecords rs).link = s.link := rfl
@[simp] theorem State.withRecords_panel (rs : List Contribution) : (s.withRecords rs).panel = s.panel := rfl
@[simp] theorem State.withRecords_free (rs : List Contribution) : (s.withRecords rs).free = s.free := rfl

/-! ### State.withPhase -/

@[simp] theorem State.withPhase_pending (p : Phase) : (s.withPhase p).pending = s.pending := rfl
@[simp] theorem State.withPhase_pins (p : Phase) : (s.withPhase p).pins = s.pins := rfl
@[simp] theorem State.withPhase_station (p : Phase) : (s.withPhase p).station = s.station := rfl
@[simp] theorem State.withPhase_partTime (p : Phase) : (s.withPhase p).partTime = s.partTime := rfl
@[simp] theorem State.withPhase_subTime (p : Phase) : (s.withPhase p).subTime = s.subTime := rfl
@[simp] theorem State.withPhase_startup (p : Phase) : (s.withPhase p).startup = s.startup := rfl
@[simp] theorem State.withPhase_settings (p : Phase) : (s.withPhase p).settings = s.settings := rfl
@[simp] theorem State.withPhase_scan (p : Phase) : (s.withPhase p).scan = s.scan := rfl
@[simp] theorem State.withPhase_cycle (p : Phase) : (s.withPhase p).cycle = { s.cycle with phase := p } := rfl
@[simp] theorem State.withPhase_weigh (p : Phase) : (s.withPhase p).weigh = s.weigh := rfl
@[simp] theorem State.withPhase_trucks (p : Phase) : (s.withPhase p).trucks = s.trucks := rfl
@[simp] theorem State.withPhase_tally (p : Phase) : (s.withPhase p).tally = s.tally := rfl
@[simp] theorem State.withPhase_roster (p : Phase) : (s.withPhase p).roster = s.roster := rfl
@[simp] theorem State.withPhase_channel (p : Phase) : (s.withPhase p).channel = s.channel := rfl
@[simp] theorem State.withPhase_link (p : Phase) : (s.withPhase p).link = s.link := rfl
@[simp] theorem State.withPhase_panel (p : Phase) : (s.withPhase p).panel = s.panel := rfl
@[simp] theorem State.withPhase_free (p : Phase) : (s.withPhase p).free = s.free := rfl

/-! ### State.withResult -/

@[simp] theorem State.withResult_pending (r : ImageResult) : (s.withResult r).pending = s.pending := rfl
@[simp] theorem State.withResult_pins (r : ImageResult) : (s.withResult r).pins = s.pins := rfl
@[simp] theorem State.withResult_station (r : ImageResult) : (s.withResult r).station = s.station := rfl
@[simp] theorem State.withResult_partTime (r : ImageResult) : (s.withResult r).partTime = s.partTime := rfl
@[simp] theorem State.withResult_subTime (r : ImageResult) : (s.withResult r).subTime = s.subTime := rfl
@[simp] theorem State.withResult_startup (r : ImageResult) : (s.withResult r).startup = { s.startup with result := r } := rfl
@[simp] theorem State.withResult_settings (r : ImageResult) : (s.withResult r).settings = s.settings := rfl
@[simp] theorem State.withResult_scan (r : ImageResult) : (s.withResult r).scan = s.scan := rfl
@[simp] theorem State.withResult_cycle (r : ImageResult) : (s.withResult r).cycle = s.cycle := rfl
@[simp] theorem State.withResult_weigh (r : ImageResult) : (s.withResult r).weigh = s.weigh := rfl
@[simp] theorem State.withResult_trucks (r : ImageResult) : (s.withResult r).trucks = s.trucks := rfl
@[simp] theorem State.withResult_tally (r : ImageResult) : (s.withResult r).tally = s.tally := rfl
@[simp] theorem State.withResult_roster (r : ImageResult) : (s.withResult r).roster = s.roster := rfl
@[simp] theorem State.withResult_channel (r : ImageResult) : (s.withResult r).channel = s.channel := rfl
@[simp] theorem State.withResult_link (r : ImageResult) : (s.withResult r).link = s.link := rfl
@[simp] theorem State.withResult_panel (r : ImageResult) : (s.withResult r).panel = s.panel := rfl
@[simp] theorem State.withResult_free (r : ImageResult) : (s.withResult r).free = s.free := rfl

/-! ### State.setKey -/

@[simp] theorem State.setKey_pending (k : Key) (d : KeyState) : (s.setKey k d).pending = s.pending := rfl
@[simp] theorem State.setKey_pins (k : Key) (d : KeyState) : (s.setKey k d).pins = s.pins := rfl
@[simp] theorem State.setKey_station (k : Key) (d : KeyState) : (s.setKey k d).station = s.station := rfl
@[simp] theorem State.setKey_partTime (k : Key) (d : KeyState) : (s.setKey k d).partTime = s.partTime := rfl
@[simp] theorem State.setKey_subTime (k : Key) (d : KeyState) : (s.setKey k d).subTime = s.subTime := rfl
@[simp] theorem State.setKey_startup (k : Key) (d : KeyState) : (s.setKey k d).startup = s.startup := rfl
@[simp] theorem State.setKey_settings (k : Key) (d : KeyState) : (s.setKey k d).settings = s.settings := rfl
@[simp] theorem State.setKey_scan (k : Key) (d : KeyState) : (s.setKey k d).scan = s.scan := rfl
@[simp] theorem State.setKey_cycle (k : Key) (d : KeyState) : (s.setKey k d).cycle = s.cycle := rfl
@[simp] theorem State.setKey_weigh (k : Key) (d : KeyState) : (s.setKey k d).weigh = s.weigh := rfl
@[simp] theorem State.setKey_trucks (k : Key) (d : KeyState) : (s.setKey k d).trucks = s.trucks := rfl
@[simp] theorem State.setKey_tally (k : Key) (d : KeyState) : (s.setKey k d).tally = s.tally := rfl
@[simp] theorem State.setKey_roster (k : Key) (d : KeyState) : (s.setKey k d).roster = s.roster := rfl
@[simp] theorem State.setKey_channel (k : Key) (d : KeyState) : (s.setKey k d).channel = s.channel := rfl
@[simp] theorem State.setKey_link (k : Key) (d : KeyState) : (s.setKey k d).link = s.link := rfl
@[simp] theorem State.setKey_panel (k : Key) (d : KeyState) : (s.setKey k d).panel = { s.panel with keys := s.panel.keys.set k d } := rfl
@[simp] theorem State.setKey_free (k : Key) (d : KeyState) : (s.setKey k d).free = s.free := rfl

/-! ### State.stopDebounce -/

@[simp] theorem State.stopDebounce_pending (k : Key) : (s.stopDebounce k).pending = s.pending := rfl
@[simp] theorem State.stopDebounce_pins (k : Key) : (s.stopDebounce k).pins = s.pins := rfl
@[simp] theorem State.stopDebounce_station (k : Key) : (s.stopDebounce k).station = s.station := rfl
@[simp] theorem State.stopDebounce_partTime (k : Key) : (s.stopDebounce k).partTime = s.partTime := rfl
@[simp] theorem State.stopDebounce_subTime (k : Key) : (s.stopDebounce k).subTime = s.subTime := rfl
@[simp] theorem State.stopDebounce_startup (k : Key) : (s.stopDebounce k).startup = s.startup := rfl
@[simp] theorem State.stopDebounce_settings (k : Key) : (s.stopDebounce k).settings = s.settings := rfl
@[simp] theorem State.stopDebounce_scan (k : Key) : (s.stopDebounce k).scan = s.scan := rfl
@[simp] theorem State.stopDebounce_cycle (k : Key) : (s.stopDebounce k).cycle = s.cycle := rfl
@[simp] theorem State.stopDebounce_weigh (k : Key) : (s.stopDebounce k).weigh = s.weigh := rfl
@[simp] theorem State.stopDebounce_trucks (k : Key) : (s.stopDebounce k).trucks = s.trucks := rfl
@[simp] theorem State.stopDebounce_tally (k : Key) : (s.stopDebounce k).tally = s.tally := rfl
@[simp] theorem State.stopDebounce_roster (k : Key) : (s.stopDebounce k).roster = s.roster := rfl
@[simp] theorem State.stopDebounce_channel (k : Key) : (s.stopDebounce k).channel = s.channel := rfl
@[simp] theorem State.stopDebounce_link (k : Key) : (s.stopDebounce k).link = s.link := rfl
@[simp] theorem State.stopDebounce_panel (k : Key) : (s.stopDebounce k).panel = { s.panel with debounce := s.panel.debounce.set k none } := rfl
@[simp] theorem State.stopDebounce_free (k : Key) : (s.stopDebounce k).free = s.free := rfl

/-! ### State.markDropped -/

@[simp] theorem State.markDropped_pending (n : Nat) : (s.markDropped n).pending = s.pending := rfl
@[simp] theorem State.markDropped_pins (n : Nat) : (s.markDropped n).pins = s.pins := rfl
@[simp] theorem State.markDropped_station (n : Nat) : (s.markDropped n).station = s.station := rfl
@[simp] theorem State.markDropped_partTime (n : Nat) : (s.markDropped n).partTime = s.partTime := rfl
@[simp] theorem State.markDropped_subTime (n : Nat) : (s.markDropped n).subTime = s.subTime := rfl
@[simp] theorem State.markDropped_startup (n : Nat) : (s.markDropped n).startup = s.startup := rfl
@[simp] theorem State.markDropped_settings (n : Nat) : (s.markDropped n).settings = s.settings := rfl
@[simp] theorem State.markDropped_scan (n : Nat) : (s.markDropped n).scan = s.scan := rfl
@[simp] theorem State.markDropped_cycle (n : Nat) : (s.markDropped n).cycle = s.cycle := rfl
@[simp] theorem State.markDropped_weigh (n : Nat) : (s.markDropped n).weigh = s.weigh := rfl
@[simp] theorem State.markDropped_trucks (n : Nat) : (s.markDropped n).trucks = s.trucks.update n fun e => { e with peerDropped := true } := rfl
@[simp] theorem State.markDropped_tally (n : Nat) : (s.markDropped n).tally = s.tally := rfl
@[simp] theorem State.markDropped_roster (n : Nat) : (s.markDropped n).roster = s.roster := rfl
@[simp] theorem State.markDropped_channel (n : Nat) : (s.markDropped n).channel = s.channel := rfl
@[simp] theorem State.markDropped_link (n : Nat) : (s.markDropped n).link = s.link := rfl
@[simp] theorem State.markDropped_panel (n : Nat) : (s.markDropped n).panel = s.panel := rfl
@[simp] theorem State.markDropped_free (n : Nat) : (s.markDropped n).free = s.free := rfl

/-! ### State.creditPile -/

@[simp] theorem State.creditPile_pending (m : Option Nat) : (s.creditPile m).pending = s.pending := rfl
@[simp] theorem State.creditPile_pins (m : Option Nat) : (s.creditPile m).pins = s.pins := rfl
@[simp] theorem State.creditPile_station (m : Option Nat) : (s.creditPile m).station = s.station := rfl
@[simp] theorem State.creditPile_partTime (m : Option Nat) : (s.creditPile m).partTime = s.partTime := rfl
@[simp] theorem State.creditPile_subTime (m : Option Nat) : (s.creditPile m).subTime = s.subTime := rfl
@[simp] theorem State.creditPile_startup (m : Option Nat) : (s.creditPile m).startup = s.startup := rfl
@[simp] theorem State.creditPile_settings (m : Option Nat) : (s.creditPile m).settings = s.settings := rfl
@[simp] theorem State.creditPile_scan (m : Option Nat) : (s.creditPile m).scan = s.scan := rfl
@[simp] theorem State.creditPile_cycle (m : Option Nat) : (s.creditPile m).cycle = s.cycle := rfl
@[simp] theorem State.creditPile_weigh (m : Option Nat) : (s.creditPile m).weigh = s.weigh := rfl
@[simp] theorem State.creditPile_trucks (m : Option Nat) : (s.creditPile m).trucks = s.trucks := rfl
@[simp] theorem State.creditPile_tally (m : Option Nat) : (s.creditPile m).tally = { s.tally with shift := s.tally.shift.addPile m } := rfl
@[simp] theorem State.creditPile_roster (m : Option Nat) : (s.creditPile m).roster = s.roster := rfl
@[simp] theorem State.creditPile_channel (m : Option Nat) : (s.creditPile m).channel = s.channel := rfl
@[simp] theorem State.creditPile_link (m : Option Nat) : (s.creditPile m).link = s.link := rfl
@[simp] theorem State.creditPile_panel (m : Option Nat) : (s.creditPile m).panel = s.panel := rfl
@[simp] theorem State.creditPile_free (m : Option Nat) : (s.creditPile m).free = s.free := rfl

/-! ### State.refuseCredit -/

@[simp] theorem State.refuseCredit_pending (m : Option Nat) : (s.refuseCredit m).pending = s.pending := rfl
@[simp] theorem State.refuseCredit_pins (m : Option Nat) : (s.refuseCredit m).pins = s.pins := rfl
@[simp] theorem State.refuseCredit_station (m : Option Nat) : (s.refuseCredit m).station = s.station := rfl
@[simp] theorem State.refuseCredit_partTime (m : Option Nat) : (s.refuseCredit m).partTime = s.partTime := rfl
@[simp] theorem State.refuseCredit_subTime (m : Option Nat) : (s.refuseCredit m).subTime = s.subTime := rfl
@[simp] theorem State.refuseCredit_startup (m : Option Nat) : (s.refuseCredit m).startup = s.startup := rfl
@[simp] theorem State.refuseCredit_settings (m : Option Nat) : (s.refuseCredit m).settings = s.settings := rfl
@[simp] theorem State.refuseCredit_scan (m : Option Nat) : (s.refuseCredit m).scan = s.scan := rfl
@[simp] theorem State.refuseCredit_cycle (m : Option Nat) : (s.refuseCredit m).cycle = s.cycle := rfl
@[simp] theorem State.refuseCredit_weigh (m : Option Nat) : (s.refuseCredit m).weigh = s.weigh := rfl
@[simp] theorem State.refuseCredit_trucks (m : Option Nat) : (s.refuseCredit m).trucks = s.trucks := rfl
@[simp] theorem State.refuseCredit_tally (m : Option Nat) : (s.refuseCredit m).tally = { s.tally with shift := s.tally.shift.addPile m } := rfl
@[simp] theorem State.refuseCredit_roster (m : Option Nat) : (s.refuseCredit m).roster = s.roster := rfl
@[simp] theorem State.refuseCredit_channel (m : Option Nat) : (s.refuseCredit m).channel = s.channel := rfl
@[simp] theorem State.refuseCredit_link (m : Option Nat) : (s.refuseCredit m).link = s.link := rfl
@[simp] theorem State.refuseCredit_panel (m : Option Nat) : (s.refuseCredit m).panel = s.panel.raise .table := rfl
@[simp] theorem State.refuseCredit_free (m : Option Nat) : (s.refuseCredit m).free = s.free := rfl

/-! ### State.discardBucket -/

@[simp] theorem State.discardBucket_pending : (s.discardBucket).pending = s.pending := rfl
@[simp] theorem State.discardBucket_pins : (s.discardBucket).pins = s.pins := rfl
@[simp] theorem State.discardBucket_station : (s.discardBucket).station = s.station := rfl
@[simp] theorem State.discardBucket_partTime : (s.discardBucket).partTime = s.partTime := rfl
@[simp] theorem State.discardBucket_subTime : (s.discardBucket).subTime = s.subTime := rfl
@[simp] theorem State.discardBucket_startup : (s.discardBucket).startup = s.startup := rfl
@[simp] theorem State.discardBucket_settings : (s.discardBucket).settings = s.settings := rfl
@[simp] theorem State.discardBucket_scan : (s.discardBucket).scan = s.scan := rfl
@[simp] theorem State.discardBucket_cycle : (s.discardBucket).cycle = s.cycle := rfl
@[simp] theorem State.discardBucket_weigh : (s.discardBucket).weigh = { s.weigh.rest .idle none with held := none } := rfl
@[simp] theorem State.discardBucket_trucks : (s.discardBucket).trucks = s.trucks := rfl
@[simp] theorem State.discardBucket_tally : (s.discardBucket).tally = s.tally := rfl
@[simp] theorem State.discardBucket_roster : (s.discardBucket).roster = s.roster := rfl
@[simp] theorem State.discardBucket_channel : (s.discardBucket).channel = s.channel := rfl
@[simp] theorem State.discardBucket_link : (s.discardBucket).link = s.link := rfl
@[simp] theorem State.discardBucket_panel : (s.discardBucket).panel = s.panel := rfl
@[simp] theorem State.discardBucket_free : (s.discardBucket).free = s.free := rfl

/-! ### State.endTare -/

@[simp] theorem State.endTare_pending (w : WeighState) : (s.endTare w).pending = s.pending := rfl
@[simp] theorem State.endTare_pins (w : WeighState) : (s.endTare w).pins = s.pins := rfl
@[simp] theorem State.endTare_station (w : WeighState) : (s.endTare w).station = s.station := rfl
@[simp] theorem State.endTare_partTime (w : WeighState) : (s.endTare w).partTime = s.partTime := rfl
@[simp] theorem State.endTare_subTime (w : WeighState) : (s.endTare w).subTime = s.subTime := rfl
@[simp] theorem State.endTare_startup (w : WeighState) : (s.endTare w).startup = s.startup := rfl
@[simp] theorem State.endTare_settings (w : WeighState) : (s.endTare w).settings = s.settings := rfl
@[simp] theorem State.endTare_scan (w : WeighState) : (s.endTare w).scan = s.scan := rfl
@[simp] theorem State.endTare_cycle (w : WeighState) : (s.endTare w).cycle = s.cycle := rfl
@[simp] theorem State.endTare_weigh (w : WeighState) : (s.endTare w).weigh = { s.weigh.rest w none with tareRequest := none } := rfl
@[simp] theorem State.endTare_trucks (w : WeighState) : (s.endTare w).trucks = s.trucks := rfl
@[simp] theorem State.endTare_tally (w : WeighState) : (s.endTare w).tally = s.tally := rfl
@[simp] theorem State.endTare_roster (w : WeighState) : (s.endTare w).roster = s.roster := rfl
@[simp] theorem State.endTare_channel (w : WeighState) : (s.endTare w).channel = s.channel := rfl
@[simp] theorem State.endTare_link (w : WeighState) : (s.endTare w).link = s.link := rfl
@[simp] theorem State.endTare_panel (w : WeighState) : (s.endTare w).panel = s.panel.raise .tare := rfl
@[simp] theorem State.endTare_free (w : WeighState) : (s.endTare w).free = s.free := rfl

/-! ### State.watchCarrier -/

@[simp] theorem State.watchCarrier_pending : (s.watchCarrier).pending = s.pending := rfl
@[simp] theorem State.watchCarrier_pins : (s.watchCarrier).pins = s.pins := rfl
@[simp] theorem State.watchCarrier_station : (s.watchCarrier).station = s.station := rfl
@[simp] theorem State.watchCarrier_partTime : (s.watchCarrier).partTime = s.partTime := rfl
@[simp] theorem State.watchCarrier_subTime : (s.watchCarrier).subTime = s.subTime := rfl
@[simp] theorem State.watchCarrier_startup : (s.watchCarrier).startup = s.startup := rfl
@[simp] theorem State.watchCarrier_settings : (s.watchCarrier).settings = s.settings := rfl
@[simp] theorem State.watchCarrier_scan : (s.watchCarrier).scan = s.scan := rfl
@[simp] theorem State.watchCarrier_cycle : (s.watchCarrier).cycle = s.cycle := rfl
@[simp] theorem State.watchCarrier_weigh : (s.watchCarrier).weigh = s.weigh := rfl
@[simp] theorem State.watchCarrier_trucks : (s.watchCarrier).trucks = s.trucks := rfl
@[simp] theorem State.watchCarrier_tally : (s.watchCarrier).tally = s.tally := rfl
@[simp] theorem State.watchCarrier_roster : (s.watchCarrier).roster = s.roster := rfl
@[simp] theorem State.watchCarrier_channel : (s.watchCarrier).channel = { s.channel with holdOff := none, carrierWatch := s.timer 2000 } := rfl
@[simp] theorem State.watchCarrier_link : (s.watchCarrier).link = s.link := rfl
@[simp] theorem State.watchCarrier_panel : (s.watchCarrier).panel = s.panel := rfl
@[simp] theorem State.watchCarrier_free : (s.watchCarrier).free = s.free := rfl

/-! ### State.endOwnFrame -/

@[simp] theorem State.endOwnFrame_pending : (s.endOwnFrame).pending = s.pending := rfl
@[simp] theorem State.endOwnFrame_pins : (s.endOwnFrame).pins = s.pins := rfl
@[simp] theorem State.endOwnFrame_station : (s.endOwnFrame).station = s.station := rfl
@[simp] theorem State.endOwnFrame_partTime : (s.endOwnFrame).partTime = s.partTime := rfl
@[simp] theorem State.endOwnFrame_subTime : (s.endOwnFrame).subTime = s.subTime := rfl
@[simp] theorem State.endOwnFrame_startup : (s.endOwnFrame).startup = s.startup := rfl
@[simp] theorem State.endOwnFrame_settings : (s.endOwnFrame).settings = s.settings := rfl
@[simp] theorem State.endOwnFrame_scan : (s.endOwnFrame).scan = s.scan := rfl
@[simp] theorem State.endOwnFrame_cycle : (s.endOwnFrame).cycle = s.cycle := rfl
@[simp] theorem State.endOwnFrame_weigh : (s.endOwnFrame).weigh = s.weigh := rfl
@[simp] theorem State.endOwnFrame_trucks : (s.endOwnFrame).trucks = s.trucks := rfl
@[simp] theorem State.endOwnFrame_tally : (s.endOwnFrame).tally = s.tally := rfl
@[simp] theorem State.endOwnFrame_roster : (s.endOwnFrame).roster = s.roster := rfl
@[simp] theorem State.endOwnFrame_channel : (s.endOwnFrame).channel = { s.channel with frameOnLine := false, carrierWatch := if s.station.onFace && s.pins.cdIn then s.timer 2000 else none } := rfl
@[simp] theorem State.endOwnFrame_link : (s.endOwnFrame).link = s.link := rfl
@[simp] theorem State.endOwnFrame_panel : (s.endOwnFrame).panel = s.panel := rfl
@[simp] theorem State.endOwnFrame_free : (s.endOwnFrame).free = s.free := rfl

/-! ### State.buildBeacon -/

@[simp] theorem State.buildBeacon_pending : (s.buildBeacon).pending = s.pending := rfl
@[simp] theorem State.buildBeacon_pins : (s.buildBeacon).pins = s.pins := rfl
@[simp] theorem State.buildBeacon_station : (s.buildBeacon).station = s.station := rfl
@[simp] theorem State.buildBeacon_partTime : (s.buildBeacon).partTime = s.partTime := rfl
@[simp] theorem State.buildBeacon_subTime : (s.buildBeacon).subTime = s.subTime := rfl
@[simp] theorem State.buildBeacon_startup : (s.buildBeacon).startup = s.startup := rfl
@[simp] theorem State.buildBeacon_settings : (s.buildBeacon).settings = s.settings := rfl
@[simp] theorem State.buildBeacon_scan : (s.buildBeacon).scan = s.scan := rfl
@[simp] theorem State.buildBeacon_cycle : (s.buildBeacon).cycle = s.cycle := rfl
@[simp] theorem State.buildBeacon_weigh : (s.buildBeacon).weigh = s.weigh := rfl
@[simp] theorem State.buildBeacon_trucks : (s.buildBeacon).trucks = s.trucks := rfl
@[simp] theorem State.buildBeacon_tally : (s.buildBeacon).tally = s.tally := rfl
@[simp] theorem State.buildBeacon_roster : (s.buildBeacon).roster = s.roster := rfl
@[simp] theorem State.buildBeacon_channel : (s.buildBeacon).channel = { s.channel with beaconSequence := s.channel.beaconSequence + 1, parts := s.beaconParts (s.channel.beaconSequence + 1) } := rfl
@[simp] theorem State.buildBeacon_link : (s.buildBeacon).link = s.link := rfl
@[simp] theorem State.buildBeacon_panel : (s.buildBeacon).panel = s.panel := rfl
@[simp] theorem State.buildBeacon_free : (s.buildBeacon).free = s.free := rfl

/-! ### State.readCsIn -/

@[simp] theorem State.readCsIn_pending (f : Bool) : (s.readCsIn f).pending = s.pending := rfl
@[simp] theorem State.readCsIn_pins (f : Bool) : (s.readCsIn f).pins = { s.pins with csIn := s.pins.csIn && !f } := rfl
@[simp] theorem State.readCsIn_station (f : Bool) : (s.readCsIn f).station = s.station := rfl
@[simp] theorem State.readCsIn_partTime (f : Bool) : (s.readCsIn f).partTime = s.partTime := rfl
@[simp] theorem State.readCsIn_subTime (f : Bool) : (s.readCsIn f).subTime = s.subTime := rfl
@[simp] theorem State.readCsIn_startup (f : Bool) : (s.readCsIn f).startup = s.startup := rfl
@[simp] theorem State.readCsIn_settings (f : Bool) : (s.readCsIn f).settings = s.settings := rfl
@[simp] theorem State.readCsIn_scan (f : Bool) : (s.readCsIn f).scan = s.scan := rfl
@[simp] theorem State.readCsIn_cycle (f : Bool) : (s.readCsIn f).cycle = s.cycle := rfl
@[simp] theorem State.readCsIn_weigh (f : Bool) : (s.readCsIn f).weigh = s.weigh := rfl
@[simp] theorem State.readCsIn_trucks (f : Bool) : (s.readCsIn f).trucks = s.trucks := rfl
@[simp] theorem State.readCsIn_tally (f : Bool) : (s.readCsIn f).tally = s.tally := rfl
@[simp] theorem State.readCsIn_roster (f : Bool) : (s.readCsIn f).roster = s.roster := rfl
@[simp] theorem State.readCsIn_channel (f : Bool) : (s.readCsIn f).channel = s.channel := rfl
@[simp] theorem State.readCsIn_link (f : Bool) : (s.readCsIn f).link = s.link := rfl
@[simp] theorem State.readCsIn_panel (f : Bool) : (s.readCsIn f).panel = s.panel := rfl
@[simp] theorem State.readCsIn_free (f : Bool) : (s.readCsIn f).free = s.free := rfl

/-! ### State.handTestFrame -/

@[simp] theorem State.handTestFrame_pending (n : Nat) : (s.handTestFrame n).pending = s.pending := rfl
@[simp] theorem State.handTestFrame_pins (n : Nat) : (s.handTestFrame n).pins = s.pins := rfl
@[simp] theorem State.handTestFrame_station (n : Nat) : (s.handTestFrame n).station = s.station := rfl
@[simp] theorem State.handTestFrame_partTime (n : Nat) : (s.handTestFrame n).partTime = s.partTime := rfl
@[simp] theorem State.handTestFrame_subTime (n : Nat) : (s.handTestFrame n).subTime = s.subTime := rfl
@[simp] theorem State.handTestFrame_startup (n : Nat) : (s.handTestFrame n).startup = { s.startup with handed := n } := rfl
@[simp] theorem State.handTestFrame_settings (n : Nat) : (s.handTestFrame n).settings = s.settings := rfl
@[simp] theorem State.handTestFrame_scan (n : Nat) : (s.handTestFrame n).scan = s.scan := rfl
@[simp] theorem State.handTestFrame_cycle (n : Nat) : (s.handTestFrame n).cycle = s.cycle := rfl
@[simp] theorem State.handTestFrame_weigh (n : Nat) : (s.handTestFrame n).weigh = s.weigh := rfl
@[simp] theorem State.handTestFrame_trucks (n : Nat) : (s.handTestFrame n).trucks = s.trucks := rfl
@[simp] theorem State.handTestFrame_tally (n : Nat) : (s.handTestFrame n).tally = s.tally := rfl
@[simp] theorem State.handTestFrame_roster (n : Nat) : (s.handTestFrame n).roster = s.roster := rfl
@[simp] theorem State.handTestFrame_channel (n : Nat) : (s.handTestFrame n).channel = s.channel := rfl
@[simp] theorem State.handTestFrame_link (n : Nat) : (s.handTestFrame n).link = s.link.beginFrame (testFrame s.settings.station n) s.now true := rfl
@[simp] theorem State.handTestFrame_panel (n : Nat) : (s.handTestFrame n).panel = s.panel := rfl
@[simp] theorem State.handTestFrame_free (n : Nat) : (s.handTestFrame n).free = s.free := rfl

/-! ### State.receiveByte -/

@[simp] theorem State.receiveByte_pending (b : Byte) (o : Bool) : (s.receiveByte b o).pending = s.pending := rfl
@[simp] theorem State.receiveByte_pins (b : Byte) (o : Bool) : (s.receiveByte b o).pins = s.pins := rfl
@[simp] theorem State.receiveByte_station (b : Byte) (o : Bool) : (s.receiveByte b o).station = s.station := rfl
@[simp] theorem State.receiveByte_partTime (b : Byte) (o : Bool) : (s.receiveByte b o).partTime = s.partTime := rfl
@[simp] theorem State.receiveByte_subTime (b : Byte) (o : Bool) : (s.receiveByte b o).subTime = s.subTime := rfl
@[simp] theorem State.receiveByte_startup (b : Byte) (o : Bool) : (s.receiveByte b o).startup = s.startup := rfl
@[simp] theorem State.receiveByte_settings (b : Byte) (o : Bool) : (s.receiveByte b o).settings = s.settings := rfl
@[simp] theorem State.receiveByte_scan (b : Byte) (o : Bool) : (s.receiveByte b o).scan = s.scan := rfl
@[simp] theorem State.receiveByte_cycle (b : Byte) (o : Bool) : (s.receiveByte b o).cycle = s.cycle := rfl
@[simp] theorem State.receiveByte_weigh (b : Byte) (o : Bool) : (s.receiveByte b o).weigh = s.weigh := rfl
@[simp] theorem State.receiveByte_trucks (b : Byte) (o : Bool) : (s.receiveByte b o).trucks = s.trucks := rfl
@[simp] theorem State.receiveByte_tally (b : Byte) (o : Bool) : (s.receiveByte b o).tally = s.tally := rfl
@[simp] theorem State.receiveByte_roster (b : Byte) (o : Bool) : (s.receiveByte b o).roster = s.roster := rfl
@[simp] theorem State.receiveByte_channel (b : Byte) (o : Bool) : (s.receiveByte b o).channel = s.channel := rfl
@[simp] theorem State.receiveByte_link (b : Byte) (o : Bool) : (s.receiveByte b o).link = { s.link.store b (s.gapSince s.link.lastArrival) o with lastArrival := some s.now } := rfl
@[simp] theorem State.receiveByte_panel (b : Byte) (o : Bool) : (s.receiveByte b o).panel = s.panel := rfl
@[simp] theorem State.receiveByte_free (b : Byte) (o : Bool) : (s.receiveByte b o).free = s.free := rfl

/-! ### State.becomeBusy -/

@[simp] theorem State.becomeBusy_pending : (s.becomeBusy).pending = s.pending := rfl
@[simp] theorem State.becomeBusy_pins : (s.becomeBusy).pins = s.pins := rfl
@[simp] theorem State.becomeBusy_station : (s.becomeBusy).station = s.station := rfl
@[simp] theorem State.becomeBusy_partTime : (s.becomeBusy).partTime = s.partTime := rfl
@[simp] theorem State.becomeBusy_subTime : (s.becomeBusy).subTime = s.subTime := rfl
@[simp] theorem State.becomeBusy_startup : (s.becomeBusy).startup = s.startup := rfl
@[simp] theorem State.becomeBusy_settings : (s.becomeBusy).settings = s.settings := rfl
@[simp] theorem State.becomeBusy_scan : (s.becomeBusy).scan = s.scan := rfl
@[simp] theorem State.becomeBusy_cycle : (s.becomeBusy).cycle = s.cycle := rfl
@[simp] theorem State.becomeBusy_weigh : (s.becomeBusy).weigh = s.weigh := rfl
@[simp] theorem State.becomeBusy_trucks : (s.becomeBusy).trucks = s.trucks := rfl
@[simp] theorem State.becomeBusy_tally : (s.becomeBusy).tally = s.tally := rfl
@[simp] theorem State.becomeBusy_roster : (s.becomeBusy).roster = s.roster := rfl
@[simp] theorem State.becomeBusy_channel : (s.becomeBusy).channel = s.channel := rfl
@[simp] theorem State.becomeBusy_link : (s.becomeBusy).link = { s.link with busy := true, busySince := some s.now, busyUnits := (Config.frameTakeUnits s.free).val } := rfl
@[simp] theorem State.becomeBusy_panel : (s.becomeBusy).panel = s.panel := rfl
@[simp] theorem State.becomeBusy_free : (s.becomeBusy).free = s.free + 1 := rfl

/-! ### State.judgeScan -/

@[simp] theorem State.judgeScan_pending (u : Bool) : (s.judgeScan u).pending = s.pending := rfl
@[simp] theorem State.judgeScan_pins (u : Bool) : (s.judgeScan u).pins = s.pins := rfl
@[simp] theorem State.judgeScan_station (u : Bool) : (s.judgeScan u).station = s.station := rfl
@[simp] theorem State.judgeScan_partTime (u : Bool) : (s.judgeScan u).partTime = s.partTime := rfl
@[simp] theorem State.judgeScan_subTime (u : Bool) : (s.judgeScan u).subTime = s.subTime := rfl
@[simp] theorem State.judgeScan_startup (u : Bool) : (s.judgeScan u).startup = s.startup := rfl
@[simp] theorem State.judgeScan_settings (u : Bool) : (s.judgeScan u).settings = s.settings := rfl
@[simp] theorem State.judgeScan_scan (u : Bool) : (s.judgeScan u).scan = (s.scan.count u).judge := rfl
@[simp] theorem State.judgeScan_cycle (u : Bool) : (s.judgeScan u).cycle = s.cycle := rfl
@[simp] theorem State.judgeScan_weigh (u : Bool) : (s.judgeScan u).weigh = s.weigh := rfl
@[simp] theorem State.judgeScan_trucks (u : Bool) : (s.judgeScan u).trucks = s.trucks := rfl
@[simp] theorem State.judgeScan_tally (u : Bool) : (s.judgeScan u).tally = s.tally := rfl
@[simp] theorem State.judgeScan_roster (u : Bool) : (s.judgeScan u).roster = s.roster := rfl
@[simp] theorem State.judgeScan_channel (u : Bool) : (s.judgeScan u).channel = s.channel := rfl
@[simp] theorem State.judgeScan_link (u : Bool) : (s.judgeScan u).link = s.link := rfl
@[simp] theorem State.judgeScan_panel (u : Bool) : (s.judgeScan u).panel = s.panel.report .sensor (s.scan.count u).judge.fault := rfl
@[simp] theorem State.judgeScan_free (u : Bool) : (s.judgeScan u).free = s.free := rfl

/-! ### State.shiftReset -/

@[simp] theorem State.shiftReset_pending : (s.shiftReset).pending = s.pending := rfl
@[simp] theorem State.shiftReset_pins : (s.shiftReset).pins = s.pins := rfl
@[simp] theorem State.shiftReset_station : (s.shiftReset).station = s.station := rfl
@[simp] theorem State.shiftReset_partTime : (s.shiftReset).partTime = s.partTime := rfl
@[simp] theorem State.shiftReset_subTime : (s.shiftReset).subTime = s.subTime := rfl
@[simp] theorem State.shiftReset_startup : (s.shiftReset).startup = s.startup := rfl
@[simp] theorem State.shiftReset_settings : (s.shiftReset).settings = s.settings := rfl
@[simp] theorem State.shiftReset_scan : (s.shiftReset).scan = s.scan := rfl
@[simp] theorem State.shiftReset_cycle : (s.shiftReset).cycle = { s.cycle with passes := [], nextNumber := 1, shiftStart := s.partTime, cycles := 0, abandoned := 0, openDump := false } := rfl
@[simp] theorem State.shiftReset_weigh : (s.shiftReset).weigh = s.weigh := rfl
@[simp] theorem State.shiftReset_trucks : (s.shiftReset).trucks = s.trucks := rfl
@[simp] theorem State.shiftReset_tally : (s.shiftReset).tally = s.tally.shiftReset := rfl
@[simp] theorem State.shiftReset_roster : (s.shiftReset).roster = s.roster := rfl
@[simp] theorem State.shiftReset_channel : (s.shiftReset).channel = s.channel := rfl
@[simp] theorem State.shiftReset_link : (s.shiftReset).link = s.link := rfl
@[simp] theorem State.shiftReset_panel : (s.shiftReset).panel = s.panel := rfl
@[simp] theorem State.shiftReset_free : (s.shiftReset).free = s.free := rfl

/-! ### State.advance -/

@[simp] theorem State.advance_pending (n : Nat) : (s.advance n).pending = s.pending := rfl
@[simp] theorem State.advance_pins (n : Nat) : (s.advance n).pins = s.pins := rfl
@[simp] theorem State.advance_station (n : Nat) : (s.advance n).station = s.station := rfl
@[simp] theorem State.advance_partTime (n : Nat) : (s.advance n).partTime = s.partTime + BitVec.ofNat 32 ((s.subTime + n) / unitsPerMs) := rfl
@[simp] theorem State.advance_subTime (n : Nat) : (s.advance n).subTime = (s.subTime + n) % unitsPerMs := rfl
@[simp] theorem State.advance_startup (n : Nat) : (s.advance n).startup = s.startup := rfl
@[simp] theorem State.advance_settings (n : Nat) : (s.advance n).settings = s.settings := rfl
@[simp] theorem State.advance_scan (n : Nat) : (s.advance n).scan = s.scan := rfl
@[simp] theorem State.advance_cycle (n : Nat) : (s.advance n).cycle = s.cycle := rfl
@[simp] theorem State.advance_weigh (n : Nat) : (s.advance n).weigh = s.weigh := rfl
@[simp] theorem State.advance_trucks (n : Nat) : (s.advance n).trucks = s.trucks := rfl
@[simp] theorem State.advance_tally (n : Nat) : (s.advance n).tally = s.tally := rfl
@[simp] theorem State.advance_roster (n : Nat) : (s.advance n).roster = s.roster := rfl
@[simp] theorem State.advance_channel (n : Nat) : (s.advance n).channel = s.channel := rfl
@[simp] theorem State.advance_link (n : Nat) : (s.advance n).link = s.link := rfl
@[simp] theorem State.advance_panel (n : Nat) : (s.advance n).panel = s.panel := rfl
@[simp] theorem State.advance_free (n : Nat) : (s.advance n).free = s.free := rfl

/-! ### State.released -/

@[simp] theorem State.released_pending : (s.released).pending = s.pending := rfl
@[simp] theorem State.released_pins : (s.released).pins = s.pins := rfl
@[simp] theorem State.released_station : (s.released).station = .configRead := rfl
@[simp] theorem State.released_partTime : (s.released).partTime = 0 := rfl
@[simp] theorem State.released_subTime : (s.released).subTime = 0 := rfl
@[simp] theorem State.released_startup : (s.released).startup = { s.startup with read := .polling, readTimer := some ⟨0, 200⟩ } := rfl
@[simp] theorem State.released_settings : (s.released).settings = s.settings := rfl
@[simp] theorem State.released_scan : (s.released).scan = s.scan := rfl
@[simp] theorem State.released_cycle : (s.released).cycle = s.cycle := rfl
@[simp] theorem State.released_weigh : (s.released).weigh = s.weigh := rfl
@[simp] theorem State.released_trucks : (s.released).trucks = s.trucks := rfl
@[simp] theorem State.released_tally : (s.released).tally = s.tally := rfl
@[simp] theorem State.released_roster : (s.released).roster = s.roster := rfl
@[simp] theorem State.released_channel : (s.released).channel = s.channel := rfl
@[simp] theorem State.released_link : (s.released).link = s.link := rfl
@[simp] theorem State.released_panel : (s.released).panel = { s.panel with debounce := heldKeys s.pins.keys 0 } := rfl
@[simp] theorem State.released_free : (s.released).free = s.free := rfl

/-! ### State.enterHalted -/

@[simp] theorem State.enterHalted_pending (r : HaltReason) : (s.enterHalted r).pending = s.pending := rfl
@[simp] theorem State.enterHalted_pins (r : HaltReason) : (s.enterHalted r).pins = s.pins := rfl
@[simp] theorem State.enterHalted_station (r : HaltReason) : (s.enterHalted r).station = .halted := rfl
@[simp] theorem State.enterHalted_partTime (r : HaltReason) : (s.enterHalted r).partTime = s.partTime := rfl
@[simp] theorem State.enterHalted_subTime (r : HaltReason) : (s.enterHalted r).subTime = s.subTime := rfl
@[simp] theorem State.enterHalted_startup (r : HaltReason) : (s.enterHalted r).startup = { s.startup with haltReason := some r, read := .stopped, readTimer := none, selfTestTimer := none, expected := 0, handed := 0 } := rfl
@[simp] theorem State.enterHalted_settings (r : HaltReason) : (s.enterHalted r).settings = s.settings := rfl
@[simp] theorem State.enterHalted_scan (r : HaltReason) : (s.enterHalted r).scan = s.scan := rfl
@[simp] theorem State.enterHalted_cycle (r : HaltReason) : (s.enterHalted r).cycle = s.cycle := rfl
@[simp] theorem State.enterHalted_weigh (r : HaltReason) : (s.enterHalted r).weigh = s.weigh := rfl
@[simp] theorem State.enterHalted_trucks (r : HaltReason) : (s.enterHalted r).trucks = s.trucks := rfl
@[simp] theorem State.enterHalted_tally (r : HaltReason) : (s.enterHalted r).tally = s.tally := rfl
@[simp] theorem State.enterHalted_roster (r : HaltReason) : (s.enterHalted r).roster = s.roster := rfl
@[simp] theorem State.enterHalted_channel (r : HaltReason) : (s.enterHalted r).channel = s.channel := rfl
@[simp] theorem State.enterHalted_link (r : HaltReason) : (s.enterHalted r).link = s.link.released := rfl
@[simp] theorem State.enterHalted_panel (r : HaltReason) : (s.enterHalted r).panel = s.panel := rfl
@[simp] theorem State.enterHalted_free (r : HaltReason) : (s.enterHalted r).free = s.free := rfl

/-! ### State.held (DEVICE_RESET) -/

@[simp] theorem State.held_pending : s.held.pending = s.pending := rfl
@[simp] theorem State.held_pins : s.held.pins = s.pins := rfl
@[simp] theorem State.held_station : s.held.station = State.reset.station := rfl
@[simp] theorem State.held_partTime : s.held.partTime = State.reset.partTime := rfl
@[simp] theorem State.held_subTime : s.held.subTime = State.reset.subTime := rfl
@[simp] theorem State.held_startup : s.held.startup = State.reset.startup := rfl
@[simp] theorem State.held_settings : s.held.settings = State.reset.settings := rfl
@[simp] theorem State.held_scan : s.held.scan = State.reset.scan := rfl
@[simp] theorem State.held_cycle : s.held.cycle = State.reset.cycle := rfl
@[simp] theorem State.held_weigh : s.held.weigh = State.reset.weigh := rfl
@[simp] theorem State.held_trucks : s.held.trucks = State.reset.trucks := rfl
@[simp] theorem State.held_tally : s.held.tally = State.reset.tally := rfl
@[simp] theorem State.held_roster : s.held.roster = State.reset.roster := rfl
@[simp] theorem State.held_channel : s.held.channel = State.reset.channel := rfl
@[simp] theorem State.held_link : s.held.link = State.reset.link := rfl
@[simp] theorem State.held_panel : s.held.panel = State.reset.panel := rfl
@[simp] theorem State.held_free : s.held.free = s.free := rfl

end Sys2Proof.Machine
end

