-- ==== Sys2Proof/Laws/Settle.lean ====
section
/-! SUPPORT. What the settling at the end of a command can do: its frame, and the three properties it brings about. -/

namespace Sys2Proof.Machine

variable (s : State)

/-! ## Frames -/

/-- A transfer's start touches the cells and the transfer only. -/
theorem CabPanel.startTransfer_frame (p : CabPanel) (now : PartTime) :
    ∃ fields transfer, p.startTransfer now = { p with fields := fields, transfer := transfer } := by
  unfold CabPanel.startTransfer
  split
  · exact ⟨p.fields, p.transfer, rfl⟩
  · split
    · exact ⟨p.fields, p.transfer, rfl⟩
    · exact ⟨_, _, rfl⟩

/-- The same at the state. -/
theorem State.startTransfer_frame :
    ∃ fields transfer,
      s.startTransfer = { s with panel := { s.panel with fields := fields, transfer := transfer } } := by
  unfold State.startTransfer
  split
  · exact ⟨s.panel.fields, s.panel.transfer, rfl⟩
  · obtain ⟨f, t, h⟩ := s.panel.startTransfer_frame s.partTime
    exact ⟨f, t, by rw [h]⟩

/-- The hold-off's start touches the hold-off timer only. -/
theorem State.startHoldOff_frame :
    ∃ holdOff, s.startHoldOff = { s with channel := { s.channel with holdOff := holdOff } } := by
  unfold State.startHoldOff
  split
  · exact ⟨_, rfl⟩
  · exact ⟨s.channel.holdOff, rfl⟩

/-- The handing of texts touches the cells and the transfer only. -/
theorem State.handWhere_frame (p : Nat → Bool) :
    ∃ fields transfer,
      s.handWhere p = { s with panel := { s.panel with fields := fields, transfer := transfer } } := by
  unfold State.handWhere
  obtain ⟨f, t, h⟩ := State.startTransfer_frame
    { s with panel := { s.panel with fields := handTexts s p 0 s.panel.fields } }
  exact ⟨f, t, h⟩

/-- Nothing need be handed, and two handings follow one another. -/
theorem SettledFrom.refl : SettledFrom s s := ⟨s.panel.fields, s.panel.transfer, s.channel.holdOff, rfl⟩

theorem SettledFrom.trans {s t u : State} (h : SettledFrom s t) (k : SettledFrom t u) : SettledFrom s u := by
  obtain ⟨_, _, _, rfl⟩ := h
  obtain ⟨f, x, o, rfl⟩ := k
  exact ⟨f, x, o, rfl⟩

theorem State.handWhere_settledFrom (p : Nat → Bool) : SettledFrom s (s.handWhere p) := by
  obtain ⟨f, t, h⟩ := s.handWhere_frame p
  exact ⟨f, t, s.channel.holdOff, h⟩

theorem State.startHoldOff_settledFrom : SettledFrom s s.startHoldOff := by
  obtain ⟨h, hh⟩ := s.startHoldOff_frame
  exact ⟨s.panel.fields, s.panel.transfer, h, hh⟩

/-- Settling changes the field texts, the pending set, the transfer in flight and the hold-off timer only. -/
theorem State.settle_settledFrom : SettledFrom s s.settle :=
  s.startHoldOff_settledFrom.trans (s.startHoldOff.handWhere_settledFrom _)

/-! ## One lemma per field -/

@[simp] theorem State.settle_pending : s.settle.pending = s.pending := by
  obtain ⟨_, _, _, h⟩ := s.settle_settledFrom; rw [h]
@[simp] theorem State.settle_pins : s.settle.pins = s.pins := by
  obtain ⟨_, _, _, h⟩ := s.settle_settledFrom; rw [h]
@[simp] theorem State.settle_station : s.settle.station = s.station := by
  obtain ⟨_, _, _, h⟩ := s.settle_settledFrom; rw [h]
@[simp] theorem State.settle_partTime : s.settle.partTime = s.partTime := by
  obtain ⟨_, _, _, h⟩ := s.settle_settledFrom; rw [h]
@[simp] theorem State.settle_subTime : s.settle.subTime = s.subTime := by
  obtain ⟨_, _, _, h⟩ := s.settle_settledFrom; rw [h]
@[simp] theorem State.settle_startup : s.settle.startup = s.startup := by
  obtain ⟨_, _, _, h⟩ := s.settle_settledFrom; rw [h]
@[simp] theorem State.settle_settings : s.settle.settings = s.settings := by
  obtain ⟨_, _, _, h⟩ := s.settle_settledFrom; rw [h]
@[simp] theorem State.settle_scan : s.settle.scan = s.scan := by
  obtain ⟨_, _, _, h⟩ := s.settle_settledFrom; rw [h]
@[simp] theorem State.settle_cycle : s.settle.cycle = s.cycle := by
  obtain ⟨_, _, _, h⟩ := s.settle_settledFrom; rw [h]
@[simp] theorem State.settle_weigh : s.settle.weigh = s.weigh := by
  obtain ⟨_, _, _, h⟩ := s.settle_settledFrom; rw [h]
@[simp] theorem State.settle_trucks : s.settle.trucks = s.trucks := by
  obtain ⟨_, _, _, h⟩ := s.settle_settledFrom; rw [h]
@[simp] theorem State.settle_tally : s.settle.tally = s.tally := by
  obtain ⟨_, _, _, h⟩ := s.settle_settledFrom; rw [h]
@[simp] theorem State.settle_roster : s.settle.roster = s.roster := by
  obtain ⟨_, _, _, h⟩ := s.settle_settledFrom; rw [h]
@[simp] theorem State.settle_link : s.settle.link = s.link := by
  obtain ⟨_, _, _, h⟩ := s.settle_settledFrom; rw [h]
@[simp] theorem State.settle_free : s.settle.free = s.free := by
  obtain ⟨_, _, _, h⟩ := s.settle_settledFrom; rw [h]
@[simp] theorem State.settle_panel_displayFault : s.settle.panel.displayFault = s.panel.displayFault := by
  obtain ⟨_, _, _, h⟩ := s.settle_settledFrom; rw [h]
@[simp] theorem State.settle_panel_retryPause : s.settle.panel.retryPause = s.panel.retryPause := by
  obtain ⟨_, _, _, h⟩ := s.settle_settledFrom; rw [h]
@[simp] theorem State.settle_panel_keys : s.settle.panel.keys = s.panel.keys := by
  obtain ⟨_, _, _, h⟩ := s.settle_settledFrom; rw [h]
@[simp] theorem State.settle_panel_debounce : s.settle.panel.debounce = s.panel.debounce := by
  obtain ⟨_, _, _, h⟩ := s.settle_settledFrom; rw [h]
@[simp] theorem State.settle_panel_shiftHold : s.settle.panel.shiftHold = s.panel.shiftHold := by
  obtain ⟨_, _, _, h⟩ := s.settle_settledFrom; rw [h]
@[simp] theorem State.settle_panel_material : s.settle.panel.material = s.panel.material := by
  obtain ⟨_, _, _, h⟩ := s.settle_settledFrom; rw [h]
@[simp] theorem State.settle_panel_alerts : s.settle.panel.alerts = s.panel.alerts := by
  obtain ⟨_, _, _, h⟩ := s.settle_settledFrom; rw [h]
@[simp] theorem State.settle_channel_notices : s.settle.channel.notices = s.channel.notices := by
  obtain ⟨_, _, _, h⟩ := s.settle_settledFrom; rw [h]
@[simp] theorem State.settle_channel_parts : s.settle.channel.parts = s.channel.parts := by
  obtain ⟨_, _, _, h⟩ := s.settle_settledFrom; rw [h]
@[simp] theorem State.settle_channel_beaconTimer : s.settle.channel.beaconTimer = s.channel.beaconTimer := by
  obtain ⟨_, _, _, h⟩ := s.settle_settledFrom; rw [h]
@[simp] theorem State.settle_channel_beaconSequence : s.settle.channel.beaconSequence = s.channel.beaconSequence := by
  obtain ⟨_, _, _, h⟩ := s.settle_settledFrom; rw [h]
@[simp] theorem State.settle_channel_frameOnLine : s.settle.channel.frameOnLine = s.channel.frameOnLine := by
  obtain ⟨_, _, _, h⟩ := s.settle_settledFrom; rw [h]
@[simp] theorem State.settle_channel_carrierWatch : s.settle.channel.carrierWatch = s.channel.carrierWatch := by
  obtain ⟨_, _, _, h⟩ := s.settle_settledFrom; rw [h]
@[simp] theorem State.settle_channel_carrierStuck : s.settle.channel.carrierStuck = s.channel.carrierStuck := by
  obtain ⟨_, _, _, h⟩ := s.settle_settledFrom; rw [h]
@[simp] theorem State.settle_channel_sendStall : s.settle.channel.sendStall = s.channel.sendStall := by
  obtain ⟨_, _, _, h⟩ := s.settle_settledFrom; rw [h]

@[simp] theorem State.startTransfer_pending : s.startTransfer.pending = s.pending := by
  obtain ⟨_, _, h⟩ := s.startTransfer_frame; rw [h]
@[simp] theorem State.startTransfer_pins : s.startTransfer.pins = s.pins := by
  obtain ⟨_, _, h⟩ := s.startTransfer_frame; rw [h]
@[simp] theorem State.startTransfer_station : s.startTransfer.station = s.station := by
  obtain ⟨_, _, h⟩ := s.startTransfer_frame; rw [h]
@[simp] theorem State.startTransfer_partTime : s.startTransfer.partTime = s.partTime := by
  obtain ⟨_, _, h⟩ := s.startTransfer_frame; rw [h]
@[simp] theorem State.startTransfer_subTime : s.startTransfer.subTime = s.subTime := by
  obtain ⟨_, _, h⟩ := s.startTransfer_frame; rw [h]
@[simp] theorem State.startTransfer_startup : s.startTransfer.startup = s.startup := by
  obtain ⟨_, _, h⟩ := s.startTransfer_frame; rw [h]
@[simp] theorem State.startTransfer_settings : s.startTransfer.settings = s.settings := by
  obtain ⟨_, _, h⟩ := s.startTransfer_frame; rw [h]
@[simp] theorem State.startTransfer_scan : s.startTransfer.scan = s.scan := by
  obtain ⟨_, _, h⟩ := s.startTransfer_frame; rw [h]
@[simp] theorem State.startTransfer_cycle : s.startTransfer.cycle = s.cycle := by
  obtain ⟨_, _, h⟩ := s.startTransfer_frame; rw [h]
@[simp] theorem State.startTransfer_weigh : s.startTransfer.weigh = s.weigh := by
  obtain ⟨_, _, h⟩ := s.startTransfer_frame; rw [h]
@[simp] theorem State.startTransfer_trucks : s.startTransfer.trucks = s.trucks := by
  obtain ⟨_, _, h⟩ := s.startTransfer_frame; rw [h]
@[simp] theorem State.startTransfer_tally : s.startTransfer.tally = s.tally := by
  obtain ⟨_, _, h⟩ := s.startTransfer_frame; rw [h]
@[simp] theorem State.startTransfer_roster : s.startTransfer.roster = s.roster := by
  obtain ⟨_, _, h⟩ := s.startTransfer_frame; rw [h]
@[simp] theorem State.startTransfer_link : s.startTransfer.link = s.link := by
  obtain ⟨_, _, h⟩ := s.startTransfer_frame; rw [h]
@[simp] theorem State.startTransfer_free : s.startTransfer.free = s.free := by
  obtain ⟨_, _, h⟩ := s.startTransfer_frame; rw [h]
@[simp] theorem State.startTransfer_channel : s.startTransfer.channel = s.channel := by
  obtain ⟨_, _, h⟩ := s.startTransfer_frame; rw [h]
@[simp] theorem State.startTransfer_panel_displayFault : s.startTransfer.panel.displayFault = s.panel.displayFault := by
  obtain ⟨_, _, h⟩ := s.startTransfer_frame; rw [h]
@[simp] theorem State.startTransfer_panel_retryPause : s.startTransfer.panel.retryPause = s.panel.retryPause := by
  obtain ⟨_, _, h⟩ := s.startTransfer_frame; rw [h]
@[simp] theorem State.startTransfer_panel_keys : s.startTransfer.panel.keys = s.panel.keys := by
  obtain ⟨_, _, h⟩ := s.startTransfer_frame; rw [h]
@[simp] theorem State.startTransfer_panel_debounce : s.startTransfer.panel.debounce = s.panel.debounce := by
  obtain ⟨_, _, h⟩ := s.startTransfer_frame; rw [h]
@[simp] theorem State.startTransfer_panel_shiftHold : s.startTransfer.panel.shiftHold = s.panel.shiftHold := by
  obtain ⟨_, _, h⟩ := s.startTransfer_frame; rw [h]
@[simp] theorem State.startTransfer_panel_material : s.startTransfer.panel.material = s.panel.material := by
  obtain ⟨_, _, h⟩ := s.startTransfer_frame; rw [h]
@[simp] theorem State.startTransfer_panel_alerts : s.startTransfer.panel.alerts = s.panel.alerts := by
  obtain ⟨_, _, h⟩ := s.startTransfer_frame; rw [h]

@[simp] theorem State.handWhere_pending (p : Nat → Bool) : (s.handWhere p).pending = s.pending := by
  obtain ⟨_, _, h⟩ := s.handWhere_frame p; rw [h]
@[simp] theorem State.handWhere_pins (p : Nat → Bool) : (s.handWhere p).pins = s.pins := by
  obtain ⟨_, _, h⟩ := s.handWhere_frame p; rw [h]
@[simp] theorem State.handWhere_station (p : Nat → Bool) : (s.handWhere p).station = s.station := by
  obtain ⟨_, _, h⟩ := s.handWhere_frame p; rw [h]
@[simp] theorem State.handWhere_partTime (p : Nat → Bool) : (s.handWhere p).partTime = s.partTime := by
  obtain ⟨_, _, h⟩ := s.handWhere_frame p; rw [h]
@[simp] theorem State.handWhere_subTime (p : Nat → Bool) : (s.handWhere p).subTime = s.subTime := by
  obtain ⟨_, _, h⟩ := s.handWhere_frame p; rw [h]
@[simp] theorem State.handWhere_startup (p : Nat → Bool) : (s.handWhere p).startup = s.startup := by
  obtain ⟨_, _, h⟩ := s.handWhere_frame p; rw [h]
@[simp] theorem State.handWhere_settings (p : Nat → Bool) : (s.handWhere p).settings = s.settings := by
  obtain ⟨_, _, h⟩ := s.handWhere_frame p; rw [h]
@[simp] theorem State.handWhere_scan (p : Nat → Bool) : (s.handWhere p).scan = s.scan := by
  obtain ⟨_, _, h⟩ := s.handWhere_frame p; rw [h]
@[simp] theorem State.handWhere_cycle (p : Nat → Bool) : (s.handWhere p).cycle = s.cycle := by
  obtain ⟨_, _, h⟩ := s.handWhere_frame p; rw [h]
@[simp] theorem State.handWhere_weigh (p : Nat → Bool) : (s.handWhere p).weigh = s.weigh := by
  obtain ⟨_, _, h⟩ := s.handWhere_frame p; rw [h]
@[simp] theorem State.handWhere_trucks (p : Nat → Bool) : (s.handWhere p).trucks = s.trucks := by
  obtain ⟨_, _, h⟩ := s.handWhere_frame p; rw [h]
@[simp] theorem State.handWhere_tally (p : Nat → Bool) : (s.handWhere p).tally = s.tally := by
  obtain ⟨_, _, h⟩ := s.handWhere_frame p; rw [h]
@[simp] theorem State.handWhere_roster (p : Nat → Bool) : (s.handWhere p).roster = s.roster := by
  obtain ⟨_, _, h⟩ := s.handWhere_frame p; rw [h]
@[simp] theorem State.handWhere_channel (p : Nat → Bool) : (s.handWhere p).channel = s.channel := by
  obtain ⟨_, _, h⟩ := s.handWhere_frame p; rw [h]
@[simp] theorem State.handWhere_link (p : Nat → Bool) : (s.handWhere p).link = s.link := by
  obtain ⟨_, _, h⟩ := s.handWhere_frame p; rw [h]
@[simp] theorem State.handWhere_free (p : Nat → Bool) : (s.handWhere p).free = s.free := by
  obtain ⟨_, _, h⟩ := s.handWhere_frame p; rw [h]
@[simp] theorem State.handWhere_panel_displayFault (p : Nat → Bool) : (s.handWhere p).panel.displayFault = s.panel.displayFault := by
  obtain ⟨_, _, h⟩ := s.handWhere_frame p; rw [h]
@[simp] theorem State.handWhere_panel_retryPause (p : Nat → Bool) : (s.handWhere p).panel.retryPause = s.panel.retryPause := by
  obtain ⟨_, _, h⟩ := s.handWhere_frame p; rw [h]
@[simp] theorem State.handWhere_panel_keys (p : Nat → Bool) : (s.handWhere p).panel.keys = s.panel.keys := by
  obtain ⟨_, _, h⟩ := s.handWhere_frame p; rw [h]
@[simp] theorem State.handWhere_panel_debounce (p : Nat → Bool) : (s.handWhere p).panel.debounce = s.panel.debounce := by
  obtain ⟨_, _, h⟩ := s.handWhere_frame p; rw [h]
@[simp] theorem State.handWhere_panel_shiftHold (p : Nat → Bool) : (s.handWhere p).panel.shiftHold = s.panel.shiftHold := by
  obtain ⟨_, _, h⟩ := s.handWhere_frame p; rw [h]
@[simp] theorem State.handWhere_panel_material (p : Nat → Bool) : (s.handWhere p).panel.material = s.panel.material := by
  obtain ⟨_, _, h⟩ := s.handWhere_frame p; rw [h]
@[simp] theorem State.handWhere_panel_alerts (p : Nat → Bool) : (s.handWhere p).panel.alerts = s.panel.alerts := by
  obtain ⟨_, _, h⟩ := s.handWhere_frame p; rw [h]

/-! ## The texts handed (R156) -/

/-- Handing texts keeps the number of cells. -/
theorem handTexts_length (p : Nat → Bool) (i : Nat) (cs : List FieldCell) :
    (handTexts s p i cs).length = cs.length := by
  induction cs generalizing i with
  | nil => rfl
  | cons c cs ih => simp [handTexts, ih]

/-- A cell that is handed a text holds it. -/
@[simp] theorem FieldCell.hand_text (c : FieldCell) (t : Text) : (c.hand t).text = t := by
  unfold FieldCell.hand
  split <;> simp_all

/-- Each cell that is handed its text holds its supplier's text afterwards, and each other cell is as it was. -/
theorem handTexts_text (p : Nat → Bool) (i j : Nat) (cs : List FieldCell) (h : j < cs.length) :
    ((handTexts s p i cs)[j]?).map (·.text) =
      if p (i + j) then some (fieldText s (i + j)) else (cs[j]?).map (·.text) := by
  induction cs generalizing i j with
  | nil => simp at h
  | cons c cs ih =>
    cases j with
    | zero =>
      simp only [handTexts, List.getElem?_cons_zero, Option.map_some, Nat.add_zero]
      split <;> simp
    | succ j =>
      simp only [handTexts, List.getElem?_cons_succ]
      rw [ih (i + 1) j (by simpa using h)]
      have e : i + 1 + j = i + (j + 1) := by omega
      rw [e]

/-- Taking the lowest pending cell out keeps the number of cells and their texts. -/
theorem takeLowest_texts (i : Nat) (cs : List FieldCell) (j : Nat) (t : Text) (cs' : List FieldCell)
    (h : takeLowest i cs = some (j, t, cs')) : cs'.map (·.text) = cs.map (·.text) := by
  induction cs generalizing i j t cs' with
  | nil => simp [takeLowest] at h
  | cons c cs ih =>
    simp only [takeLowest] at h
    split at h
    · simp only [Option.some.injEq, Prod.mk.injEq] at h
      rw [← h.2.2]; rfl
    · split at h
      · simp at h
      · rename_i heq
        simp only [Option.some.injEq, Prod.mk.injEq] at h
        rw [← h.2.2, List.map_cons, List.map_cons, ih _ _ _ _ heq]

/-- No cell is pending when there is none to take. -/
theorem takeLowest_none (i : Nat) (cs : List FieldCell) (h : takeLowest i cs = none) :
    ∀ c ∈ cs, c.pending = false := by
  induction cs generalizing i with
  | nil => simp
  | cons c cs ih =>
    simp only [takeLowest] at h
    split at h
    · simp at h
    · split at h
      · rename_i hp _ heq
        intro x hx
        rcases List.mem_cons.mp hx with rfl | hx
        · simpa using hp
        · exact ih _ heq x hx
      · simp at h

/-- A transfer's start keeps the texts. -/
theorem State.startTransfer_texts :
    s.startTransfer.panel.fields.map (·.text) = s.panel.fields.map (·.text) := by
  unfold State.startTransfer
  split
  · rfl
  · unfold CabPanel.startTransfer
    split
    · rfl
    · split
      · rfl
      · rename_i heq
        exact takeLowest_texts _ _ _ _ _ heq

/-- A transfer's start leaves a pending field only behind a transfer in flight or the retry pause (R158). -/
theorem State.startTransfer_transfersRun : s.startTransfer.TransfersRun := by
  intro hr ⟨c, hc, hp⟩
  unfold State.startTransfer at *
  split at hc
  · rename_i h; simp [h] at hr
  · simp only [CabPanel.startTransfer] at *
    split at hc
    · rename_i h1 h2
      simp only [h1, if_false, h2, if_true]
      simpa [Bool.or_eq_true] using h2
    · rename_i h1 h2
      simp only [h1, if_false, h2]
      split at hc
      · rename_i heq
        have := takeLowest_none _ _ heq c hc
        simp [this] at hp
      · simp

theorem State.settle_transfersRun : s.settle.TransfersRun := by
  unfold State.settle State.showTexts State.handWhere
  exact State.startTransfer_transfersRun _

theorem State.handWhere_fields_length (p : Nat → Bool) :
    (s.handWhere p).panel.fields.length = s.panel.fields.length := by
  have h := congrArg List.length (State.startTransfer_texts
    { s with panel := { s.panel with fields := handTexts s p 0 s.panel.fields } })
  simp only [List.length_map, handTexts_length] at h
  exact h

theorem State.settle_fields_length : s.settle.panel.fields.length = s.panel.fields.length := by
  unfold State.settle State.showTexts
  rw [State.handWhere_fields_length]
  obtain ⟨_, hh⟩ := s.startHoldOff_frame
  rw [hh]

/-- A settled ACTIVE state has its hold-off running when it may (R127). -/
theorem State.settle_holdOffRuns : s.settle.HoldOffRuns := by
  intro h1 h2 h3 h4
  have hs : s.settle.channel = s.startHoldOff.channel := by
    unfold State.settle State.showTexts; simp
  rw [hs]
  simp only [State.settle_station] at h1
  simp only [State.settle_channel_frameOnLine] at h3
  simp only [State.settle_pins] at h4
  have h2' : s.channel.queueEmpty = false := by
    simpa [ChannelAccess.queueEmpty] using h2
  unfold State.startHoldOff
  split
  · simp [State.timer]
  · rename_i hn
    simp only [h1, h2', h3, h4, Bool.not_false, true_and, Option.isNone_iff_eq_none] at hn
    exact Option.isSome_iff_ne_none.mpr hn

end Sys2Proof.Machine
end

