-- ==== Sys2Proof/Laws/Display.lean ====
section
/-! SUPPORT. The texts do not depend on the cells, the alert line under a freeze apart, and a settled state shows them
all. -/

namespace Sys2Proof.Machine

variable (s : State)

/-- A state that differs from s in the cells, the transfer and the hold-off only. -/
abbrev State.recell (s : State) (fields : List FieldCell) (transfer : Option Transfer) (holdOff : Option Timer) : State :=
  { s with
    panel := { s.panel with fields := fields, transfer := transfer }, channel := { s.channel with holdOff := holdOff } }

/-- Every field but the alert line is independent of the cells. -/
theorem fieldText_recell (f : List FieldCell) (t : Option Transfer) (h : Option Timer) (i : Nat) (hi : i ≠ 1) :
    fieldText (s.recell f t h) i = fieldText s i := by
  have supplied : suppliedText (s.recell f t h) i = suppliedText s i := by
    unfold suppliedText
    split <;> first | rfl | exact absurd rfl hi
  have halted : haltedText (s.recell f t h) i = haltedText s i := by unfold haltedText; split <;> rfl
  unfold fieldText
  rw [supplied, halted]

/-- A padded text has 8 characters. -/
theorem padText_length (t : Text) : (padText t).length = 8 := by simp [padText]

/-- Padding a text of 8 characters changes nothing. -/
theorem padText_padText (t : Text) : padText (padText t) = padText t := by
  have h := padText_length t
  unfold padText at *
  rw [List.take_append_of_le_length (by rw [h]), List.take_of_length_le (by rw [h])]

/-- The alert line is independent of the cells when the line's own cell already holds its text. -/
theorem fieldText_recell_line (f : List FieldCell) (t : Option Transfer) (h : Option Timer)
    (hf : (f[1]?).map (·.text) = some (fieldText s 1)) : fieldText (s.recell f t h) 1 = fieldText s 1 := by
  by_cases hs : s.station = .halted
  · simp [fieldText, hs, haltedText]
  · by_cases hz : s.panel.alerts.freeze = none
    · simp [fieldText, hs, suppliedText, alertLineText, hz]
    · obtain ⟨z, hz⟩ := Option.ne_none_iff_exists'.mp hz
      have e : fieldText (s.recell f t h) 1 = padText (((f[1]?).map (·.text)).getD []) := by
        simp [fieldText, hs, suppliedText, alertLineText, hz]
      rw [e, hf, Option.getD_some, fieldText, padText_padText]

/-- A state whose cells hold s's texts shows its own. -/
theorem displayCurrent_recell (f : List FieldCell) (t : Option Transfer) (h : Option Timer)
    (hf : ∀ i, i < 16 → (f[i]?).map (·.text) = some (fieldText s i)) : (s.recell f t h).DisplayCurrent := by
  intro i hi
  show (f[i]?).map (·.text) = _
  rw [hf i hi]
  by_cases h1 : i = 1
  · subst h1; rw [fieldText_recell_line s f t h (hf 1 (by omega))]
  · rw [fieldText_recell s f t h i h1]

/-- A settled state with sixteen cells shows every text (R156). -/
theorem State.settle_displayCurrent (hl : 16 ≤ s.panel.fields.length) : s.settle.DisplayCurrent := by
  obtain ⟨f, t, h, e⟩ := s.settle_settledFrom
  have hk : ∀ i, i < 16 → (f[i]?).map (·.text) = some (fieldText s i) := by
    intro i hi
    have ef : f = s.settle.panel.fields := by rw [e]
    obtain ⟨o, ho⟩ := s.startHoldOff_frame
    have ht : f.map (·.text) = (handTexts s.startHoldOff (fun _ => true) 0 s.startHoldOff.panel.fields).map (·.text) := by
      rw [ef]; unfold State.settle State.showTexts State.handWhere; rw [State.startTransfer_texts]
    have hi' : i < s.startHoldOff.panel.fields.length := by rw [ho]; exact Nat.lt_of_lt_of_le hi hl
    have := handTexts_text s.startHoldOff (fun _ => true) 0 i _ hi'
    simp only [if_true] at this
    rw [← List.getElem?_map, ht, List.getElem?_map, this, Nat.zero_add, ho]
    by_cases h1 : i = 1
    · subst h1
      by_cases hs : s.station = .halted
      · simp [fieldText, hs, haltedText]
      · simp only [fieldText, hs, suppliedText, alertLineText, if_false]
    · exact congrArg some (fieldText_recell s s.panel.fields s.panel.transfer o i h1)
  rw [e]
  exact displayCurrent_recell s f t h hk

end Sys2Proof.Machine
end

