-- ==== Sys2Proof/Laws/Frames.lean ====
section
/-! SUPPORT. The frame of each shared operation: one lemma per field of State that it leaves as it is. -/

namespace Sys2Proof.Machine

variable (s : State)

/-! ### State.handNotice -/

@[simp] theorem State.handNotice_pending (r : Contribution) : (s.handNotice r).pending = s.pending := by
  unfold State.handNotice; (repeat' split) <;> simp
@[simp] theorem State.handNotice_pins (r : Contribution) : (s.handNotice r).pins = s.pins := by
  unfold State.handNotice; (repeat' split) <;> simp
@[simp] theorem State.handNotice_station (r : Contribution) : (s.handNotice r).station = s.station := by
  unfold State.handNotice; (repeat' split) <;> simp
@[simp] theorem State.handNotice_partTime (r : Contribution) : (s.handNotice r).partTime = s.partTime := by
  unfold State.handNotice; (repeat' split) <;> simp
@[simp] theorem State.handNotice_subTime (r : Contribution) : (s.handNotice r).subTime = s.subTime := by
  unfold State.handNotice; (repeat' split) <;> simp
@[simp] theorem State.handNotice_startup (r : Contribution) : (s.handNotice r).startup = s.startup := by
  unfold State.handNotice; (repeat' split) <;> simp
@[simp] theorem State.handNotice_settings (r : Contribution) : (s.handNotice r).settings = s.settings := by
  unfold State.handNotice; (repeat' split) <;> simp
@[simp] theorem State.handNotice_scan (r : Contribution) : (s.handNotice r).scan = s.scan := by
  unfold State.handNotice; (repeat' split) <;> simp
@[simp] theorem State.handNotice_cycle (r : Contribution) : (s.handNotice r).cycle = s.cycle := by
  unfold State.handNotice; (repeat' split) <;> simp
@[simp] theorem State.handNotice_weigh (r : Contribution) : (s.handNotice r).weigh = s.weigh := by
  unfold State.handNotice; (repeat' split) <;> simp
@[simp] theorem State.handNotice_trucks (r : Contribution) : (s.handNotice r).trucks = s.trucks := by
  unfold State.handNotice; (repeat' split) <;> simp
@[simp] theorem State.handNotice_tally (r : Contribution) : (s.handNotice r).tally = s.tally := by
  unfold State.handNotice; (repeat' split) <;> simp
@[simp] theorem State.handNotice_roster (r : Contribution) : (s.handNotice r).roster = s.roster := by
  unfold State.handNotice; (repeat' split) <;> simp
@[simp] theorem State.handNotice_link (r : Contribution) : (s.handNotice r).link = s.link := by
  unfold State.handNotice; (repeat' split) <;> simp
@[simp] theorem State.handNotice_panel (r : Contribution) : (s.handNotice r).panel = s.panel := by
  unfold State.handNotice; (repeat' split) <;> simp
@[simp] theorem State.handNotice_free (r : Contribution) : (s.handNotice r).free = s.free := by
  unfold State.handNotice; (repeat' split) <;> simp

/-! ### State.creditOwn -/

@[simp] theorem State.creditOwn_pending (m : Option Nat) (rs : List Contribution) (r : Contribution) : (s.creditOwn m rs r).pending = s.pending := by simp [State.creditOwn]
@[simp] theorem State.creditOwn_pins (m : Option Nat) (rs : List Contribution) (r : Contribution) : (s.creditOwn m rs r).pins = s.pins := by simp [State.creditOwn]
@[simp] theorem State.creditOwn_station (m : Option Nat) (rs : List Contribution) (r : Contribution) : (s.creditOwn m rs r).station = s.station := by simp [State.creditOwn]
@[simp] theorem State.creditOwn_partTime (m : Option Nat) (rs : List Contribution) (r : Contribution) : (s.creditOwn m rs r).partTime = s.partTime := by simp [State.creditOwn]
@[simp] theorem State.creditOwn_subTime (m : Option Nat) (rs : List Contribution) (r : Contribution) : (s.creditOwn m rs r).subTime = s.subTime := by simp [State.creditOwn]
@[simp] theorem State.creditOwn_startup (m : Option Nat) (rs : List Contribution) (r : Contribution) : (s.creditOwn m rs r).startup = s.startup := by simp [State.creditOwn]
@[simp] theorem State.creditOwn_settings (m : Option Nat) (rs : List Contribution) (r : Contribution) : (s.creditOwn m rs r).settings = s.settings := by simp [State.creditOwn]
@[simp] theorem State.creditOwn_scan (m : Option Nat) (rs : List Contribution) (r : Contribution) : (s.creditOwn m rs r).scan = s.scan := by simp [State.creditOwn]
@[simp] theorem State.creditOwn_cycle (m : Option Nat) (rs : List Contribution) (r : Contribution) : (s.creditOwn m rs r).cycle = s.cycle := by simp [State.creditOwn]
@[simp] theorem State.creditOwn_weigh (m : Option Nat) (rs : List Contribution) (r : Contribution) : (s.creditOwn m rs r).weigh = s.weigh := by simp [State.creditOwn]
@[simp] theorem State.creditOwn_trucks (m : Option Nat) (rs : List Contribution) (r : Contribution) : (s.creditOwn m rs r).trucks = s.trucks := by simp [State.creditOwn]
@[simp] theorem State.creditOwn_roster (m : Option Nat) (rs : List Contribution) (r : Contribution) : (s.creditOwn m rs r).roster = s.roster := by simp [State.creditOwn]
@[simp] theorem State.creditOwn_link (m : Option Nat) (rs : List Contribution) (r : Contribution) : (s.creditOwn m rs r).link = s.link := by simp [State.creditOwn]
@[simp] theorem State.creditOwn_free (m : Option Nat) (rs : List Contribution) (r : Contribution) : (s.creditOwn m rs r).free = s.free := by simp [State.creditOwn]

/-! ### State.credit -/

@[simp] theorem State.credit_pending (m : Option Nat) (l : Option Load) : (s.credit m l).1.pending = s.pending := by
  unfold State.credit; (try dsimp only); (repeat' split) <;> simp
@[simp] theorem State.credit_pins (m : Option Nat) (l : Option Load) : (s.credit m l).1.pins = s.pins := by
  unfold State.credit; (try dsimp only); (repeat' split) <;> simp
@[simp] theorem State.credit_station (m : Option Nat) (l : Option Load) : (s.credit m l).1.station = s.station := by
  unfold State.credit; (try dsimp only); (repeat' split) <;> simp
@[simp] theorem State.credit_partTime (m : Option Nat) (l : Option Load) : (s.credit m l).1.partTime = s.partTime := by
  unfold State.credit; (try dsimp only); (repeat' split) <;> simp
@[simp] theorem State.credit_subTime (m : Option Nat) (l : Option Load) : (s.credit m l).1.subTime = s.subTime := by
  unfold State.credit; (try dsimp only); (repeat' split) <;> simp
@[simp] theorem State.credit_startup (m : Option Nat) (l : Option Load) : (s.credit m l).1.startup = s.startup := by
  unfold State.credit; (try dsimp only); (repeat' split) <;> simp
@[simp] theorem State.credit_settings (m : Option Nat) (l : Option Load) : (s.credit m l).1.settings = s.settings := by
  unfold State.credit; (try dsimp only); (repeat' split) <;> simp
@[simp] theorem State.credit_scan (m : Option Nat) (l : Option Load) : (s.credit m l).1.scan = s.scan := by
  unfold State.credit; (try dsimp only); (repeat' split) <;> simp
@[simp] theorem State.credit_cycle (m : Option Nat) (l : Option Load) : (s.credit m l).1.cycle = s.cycle := by
  unfold State.credit; (try dsimp only); (repeat' split) <;> simp
@[simp] theorem State.credit_weigh (m : Option Nat) (l : Option Load) : (s.credit m l).1.weigh = s.weigh := by
  unfold State.credit; (try dsimp only); (repeat' split) <;> simp
@[simp] theorem State.credit_trucks (m : Option Nat) (l : Option Load) : (s.credit m l).1.trucks = s.trucks := by
  unfold State.credit; (try dsimp only); (repeat' split) <;> simp
@[simp] theorem State.credit_roster (m : Option Nat) (l : Option Load) : (s.credit m l).1.roster = s.roster := by
  unfold State.credit; (try dsimp only); (repeat' split) <;> simp
@[simp] theorem State.credit_link (m : Option Nat) (l : Option Load) : (s.credit m l).1.link = s.link := by
  unfold State.credit; (try dsimp only); (repeat' split) <;> simp
@[simp] theorem State.credit_free (m : Option Nat) (l : Option Load) : (s.credit m l).1.free = s.free := by
  unfold State.credit; (try dsimp only); (repeat' split) <;> simp

/-! ### State.voidClaim -/

@[simp] theorem State.voidClaim_pending (m : Option Nat) (l : Option Load) : (s.voidClaim m l).1.pending = s.pending := by
  unfold State.voidClaim; (try dsimp only); (repeat' split) <;> simp
@[simp] theorem State.voidClaim_pins (m : Option Nat) (l : Option Load) : (s.voidClaim m l).1.pins = s.pins := by
  unfold State.voidClaim; (try dsimp only); (repeat' split) <;> simp
@[simp] theorem State.voidClaim_station (m : Option Nat) (l : Option Load) : (s.voidClaim m l).1.station = s.station := by
  unfold State.voidClaim; (try dsimp only); (repeat' split) <;> simp
@[simp] theorem State.voidClaim_partTime (m : Option Nat) (l : Option Load) : (s.voidClaim m l).1.partTime = s.partTime := by
  unfold State.voidClaim; (try dsimp only); (repeat' split) <;> simp
@[simp] theorem State.voidClaim_subTime (m : Option Nat) (l : Option Load) : (s.voidClaim m l).1.subTime = s.subTime := by
  unfold State.voidClaim; (try dsimp only); (repeat' split) <;> simp
@[simp] theorem State.voidClaim_startup (m : Option Nat) (l : Option Load) : (s.voidClaim m l).1.startup = s.startup := by
  unfold State.voidClaim; (try dsimp only); (repeat' split) <;> simp
@[simp] theorem State.voidClaim_settings (m : Option Nat) (l : Option Load) : (s.voidClaim m l).1.settings = s.settings := by
  unfold State.voidClaim; (try dsimp only); (repeat' split) <;> simp
@[simp] theorem State.voidClaim_scan (m : Option Nat) (l : Option Load) : (s.voidClaim m l).1.scan = s.scan := by
  unfold State.voidClaim; (try dsimp only); (repeat' split) <;> simp
@[simp] theorem State.voidClaim_cycle (m : Option Nat) (l : Option Load) : (s.voidClaim m l).1.cycle = s.cycle := by
  unfold State.voidClaim; (try dsimp only); (repeat' split) <;> simp
@[simp] theorem State.voidClaim_weigh (m : Option Nat) (l : Option Load) : (s.voidClaim m l).1.weigh = s.weigh := by
  unfold State.voidClaim; (try dsimp only); (repeat' split) <;> simp
@[simp] theorem State.voidClaim_trucks (m : Option Nat) (l : Option Load) : (s.voidClaim m l).1.trucks = s.trucks := by
  unfold State.voidClaim; (try dsimp only); (repeat' split) <;> simp
@[simp] theorem State.voidClaim_roster (m : Option Nat) (l : Option Load) : (s.voidClaim m l).1.roster = s.roster := by
  unfold State.voidClaim; (try dsimp only); (repeat' split) <;> simp
@[simp] theorem State.voidClaim_link (m : Option Nat) (l : Option Load) : (s.voidClaim m l).1.link = s.link := by
  unfold State.voidClaim; (try dsimp only); (repeat' split) <;> simp
@[simp] theorem State.voidClaim_free (m : Option Nat) (l : Option Load) : (s.voidClaim m l).1.free = s.free := by
  unfold State.voidClaim; (try dsimp only); (repeat' split) <;> simp

/-! ### State.mergePeer -/

@[simp] theorem State.mergePeer_pending (i : Item) : (s.mergePeer i).pending = s.pending := by
  unfold State.mergePeer; (repeat' split) <;> simp
@[simp] theorem State.mergePeer_pins (i : Item) : (s.mergePeer i).pins = s.pins := by
  unfold State.mergePeer; (repeat' split) <;> simp
@[simp] theorem State.mergePeer_station (i : Item) : (s.mergePeer i).station = s.station := by
  unfold State.mergePeer; (repeat' split) <;> simp
@[simp] theorem State.mergePeer_partTime (i : Item) : (s.mergePeer i).partTime = s.partTime := by
  unfold State.mergePeer; (repeat' split) <;> simp
@[simp] theorem State.mergePeer_subTime (i : Item) : (s.mergePeer i).subTime = s.subTime := by
  unfold State.mergePeer; (repeat' split) <;> simp
@[simp] theorem State.mergePeer_startup (i : Item) : (s.mergePeer i).startup = s.startup := by
  unfold State.mergePeer; (repeat' split) <;> simp
@[simp] theorem State.mergePeer_settings (i : Item) : (s.mergePeer i).settings = s.settings := by
  unfold State.mergePeer; (repeat' split) <;> simp
@[simp] theorem State.mergePeer_scan (i : Item) : (s.mergePeer i).scan = s.scan := by
  unfold State.mergePeer; (repeat' split) <;> simp
@[simp] theorem State.mergePeer_cycle (i : Item) : (s.mergePeer i).cycle = s.cycle := by
  unfold State.mergePeer; (repeat' split) <;> simp
@[simp] theorem State.mergePeer_weigh (i : Item) : (s.mergePeer i).weigh = s.weigh := by
  unfold State.mergePeer; (repeat' split) <;> simp
@[simp] theorem State.mergePeer_roster (i : Item) : (s.mergePeer i).roster = s.roster := by
  unfold State.mergePeer; (repeat' split) <;> simp
@[simp] theorem State.mergePeer_channel (i : Item) : (s.mergePeer i).channel = s.channel := by
  unfold State.mergePeer; (repeat' split) <;> simp
@[simp] theorem State.mergePeer_link (i : Item) : (s.mergePeer i).link = s.link := by
  unfold State.mergePeer; (repeat' split) <;> simp
@[simp] theorem State.mergePeer_free (i : Item) : (s.mergePeer i).free = s.free := by
  unfold State.mergePeer; (repeat' split) <;> simp

/-! ### State.adopt -/

@[simp] theorem State.adopt_pending (i : Item) : (s.adopt i).pending = s.pending := by
  unfold State.adopt; (repeat' split) <;> simp
@[simp] theorem State.adopt_pins (i : Item) : (s.adopt i).pins = s.pins := by
  unfold State.adopt; (repeat' split) <;> simp
@[simp] theorem State.adopt_station (i : Item) : (s.adopt i).station = s.station := by
  unfold State.adopt; (repeat' split) <;> simp
@[simp] theorem State.adopt_partTime (i : Item) : (s.adopt i).partTime = s.partTime := by
  unfold State.adopt; (repeat' split) <;> simp
@[simp] theorem State.adopt_subTime (i : Item) : (s.adopt i).subTime = s.subTime := by
  unfold State.adopt; (repeat' split) <;> simp
@[simp] theorem State.adopt_startup (i : Item) : (s.adopt i).startup = s.startup := by
  unfold State.adopt; (repeat' split) <;> simp
@[simp] theorem State.adopt_settings (i : Item) : (s.adopt i).settings = s.settings := by
  unfold State.adopt; (repeat' split) <;> simp
@[simp] theorem State.adopt_scan (i : Item) : (s.adopt i).scan = s.scan := by
  unfold State.adopt; (repeat' split) <;> simp
@[simp] theorem State.adopt_cycle (i : Item) : (s.adopt i).cycle = s.cycle := by
  unfold State.adopt; (repeat' split) <;> simp
@[simp] theorem State.adopt_weigh (i : Item) : (s.adopt i).weigh = s.weigh := by
  unfold State.adopt; (repeat' split) <;> simp
@[simp] theorem State.adopt_roster (i : Item) : (s.adopt i).roster = s.roster := by
  unfold State.adopt; (repeat' split) <;> simp
@[simp] theorem State.adopt_link (i : Item) : (s.adopt i).link = s.link := by
  unfold State.adopt; (repeat' split) <;> simp
@[simp] theorem State.adopt_free (i : Item) : (s.adopt i).free = s.free := by
  unfold State.adopt; (repeat' split) <;> simp

/-! ### State.mergeItem -/

@[simp] theorem State.mergeItem_pending (i : Item) : (s.mergeItem i).pending = s.pending := by
  unfold State.mergeItem; (repeat' split) <;> simp
@[simp] theorem State.mergeItem_pins (i : Item) : (s.mergeItem i).pins = s.pins := by
  unfold State.mergeItem; (repeat' split) <;> simp
@[simp] theorem State.mergeItem_station (i : Item) : (s.mergeItem i).station = s.station := by
  unfold State.mergeItem; (repeat' split) <;> simp
@[simp] theorem State.mergeItem_partTime (i : Item) : (s.mergeItem i).partTime = s.partTime := by
  unfold State.mergeItem; (repeat' split) <;> simp
@[simp] theorem State.mergeItem_subTime (i : Item) : (s.mergeItem i).subTime = s.subTime := by
  unfold State.mergeItem; (repeat' split) <;> simp
@[simp] theorem State.mergeItem_startup (i : Item) : (s.mergeItem i).startup = s.startup := by
  unfold State.mergeItem; (repeat' split) <;> simp
@[simp] theorem State.mergeItem_settings (i : Item) : (s.mergeItem i).settings = s.settings := by
  unfold State.mergeItem; (repeat' split) <;> simp
@[simp] theorem State.mergeItem_scan (i : Item) : (s.mergeItem i).scan = s.scan := by
  unfold State.mergeItem; (repeat' split) <;> simp
@[simp] theorem State.mergeItem_cycle (i : Item) : (s.mergeItem i).cycle = s.cycle := by
  unfold State.mergeItem; (repeat' split) <;> simp
@[simp] theorem State.mergeItem_weigh (i : Item) : (s.mergeItem i).weigh = s.weigh := by
  unfold State.mergeItem; (repeat' split) <;> simp
@[simp] theorem State.mergeItem_roster (i : Item) : (s.mergeItem i).roster = s.roster := by
  unfold State.mergeItem; (repeat' split) <;> simp
@[simp] theorem State.mergeItem_link (i : Item) : (s.mergeItem i).link = s.link := by
  unfold State.mergeItem; (repeat' split) <;> simp
@[simp] theorem State.mergeItem_free (i : Item) : (s.mergeItem i).free = s.free := by
  unfold State.mergeItem; (repeat' split) <;> simp

/-! ### State.mergeItems -/

@[simp] theorem State.mergeItems_pending (is : List Item) : (s.mergeItems is).pending = s.pending := by
  unfold State.mergeItems; induction is generalizing s with
  | nil => rfl
  | cons i is ih => simp [ih]
@[simp] theorem State.mergeItems_pins (is : List Item) : (s.mergeItems is).pins = s.pins := by
  unfold State.mergeItems; induction is generalizing s with
  | nil => rfl
  | cons i is ih => simp [ih]
@[simp] theorem State.mergeItems_station (is : List Item) : (s.mergeItems is).station = s.station := by
  unfold State.mergeItems; induction is generalizing s with
  | nil => rfl
  | cons i is ih => simp [ih]
@[simp] theorem State.mergeItems_partTime (is : List Item) : (s.mergeItems is).partTime = s.partTime := by
  unfold State.mergeItems; induction is generalizing s with
  | nil => rfl
  | cons i is ih => simp [ih]
@[simp] theorem State.mergeItems_subTime (is : List Item) : (s.mergeItems is).subTime = s.subTime := by
  unfold State.mergeItems; induction is generalizing s with
  | nil => rfl
  | cons i is ih => simp [ih]
@[simp] theorem State.mergeItems_startup (is : List Item) : (s.mergeItems is).startup = s.startup := by
  unfold State.mergeItems; induction is generalizing s with
  | nil => rfl
  | cons i is ih => simp [ih]
@[simp] theorem State.mergeItems_settings (is : List Item) : (s.mergeItems is).settings = s.settings := by
  unfold State.mergeItems; induction is generalizing s with
  | nil => rfl
  | cons i is ih => simp [ih]
@[simp] theorem State.mergeItems_scan (is : List Item) : (s.mergeItems is).scan = s.scan := by
  unfold State.mergeItems; induction is generalizing s with
  | nil => rfl
  | cons i is ih => simp [ih]
@[simp] theorem State.mergeItems_cycle (is : List Item) : (s.mergeItems is).cycle = s.cycle := by
  unfold State.mergeItems; induction is generalizing s with
  | nil => rfl
  | cons i is ih => simp [ih]
@[simp] theorem State.mergeItems_weigh (is : List Item) : (s.mergeItems is).weigh = s.weigh := by
  unfold State.mergeItems; induction is generalizing s with
  | nil => rfl
  | cons i is ih => simp [ih]
@[simp] theorem State.mergeItems_roster (is : List Item) : (s.mergeItems is).roster = s.roster := by
  unfold State.mergeItems; induction is generalizing s with
  | nil => rfl
  | cons i is ih => simp [ih]
@[simp] theorem State.mergeItems_link (is : List Item) : (s.mergeItems is).link = s.link := by
  unfold State.mergeItems; induction is generalizing s with
  | nil => rfl
  | cons i is ih => simp [ih]
@[simp] theorem State.mergeItems_free (is : List Item) : (s.mergeItems is).free = s.free := by
  unfold State.mergeItems; induction is generalizing s with
  | nil => rfl
  | cons i is ih => simp [ih]

/-! ### State.closeLoad -/

@[simp] theorem State.closeLoad_pending (e : TruckEntry) (c : CloseReason) : (s.closeLoad e c).pending = s.pending := by
  simp [State.closeLoad]
@[simp] theorem State.closeLoad_pins (e : TruckEntry) (c : CloseReason) : (s.closeLoad e c).pins = s.pins := by
  simp [State.closeLoad]
@[simp] theorem State.closeLoad_station (e : TruckEntry) (c : CloseReason) : (s.closeLoad e c).station = s.station := by
  simp [State.closeLoad]
@[simp] theorem State.closeLoad_partTime (e : TruckEntry) (c : CloseReason) : (s.closeLoad e c).partTime = s.partTime := by
  simp [State.closeLoad]
@[simp] theorem State.closeLoad_subTime (e : TruckEntry) (c : CloseReason) : (s.closeLoad e c).subTime = s.subTime := by
  simp [State.closeLoad]
@[simp] theorem State.closeLoad_startup (e : TruckEntry) (c : CloseReason) : (s.closeLoad e c).startup = s.startup := by
  simp [State.closeLoad]
@[simp] theorem State.closeLoad_settings (e : TruckEntry) (c : CloseReason) : (s.closeLoad e c).settings = s.settings := by
  simp [State.closeLoad]
@[simp] theorem State.closeLoad_scan (e : TruckEntry) (c : CloseReason) : (s.closeLoad e c).scan = s.scan := by
  simp [State.closeLoad]
@[simp] theorem State.closeLoad_cycle (e : TruckEntry) (c : CloseReason) : (s.closeLoad e c).cycle = s.cycle := by
  simp [State.closeLoad]
@[simp] theorem State.closeLoad_weigh (e : TruckEntry) (c : CloseReason) : (s.closeLoad e c).weigh = s.weigh := by
  simp [State.closeLoad]
@[simp] theorem State.closeLoad_trucks (e : TruckEntry) (c : CloseReason) : (s.closeLoad e c).trucks = s.trucks := by
  simp [State.closeLoad]
@[simp] theorem State.closeLoad_roster (e : TruckEntry) (c : CloseReason) : (s.closeLoad e c).roster = s.roster := by
  simp [State.closeLoad]
@[simp] theorem State.closeLoad_channel (e : TruckEntry) (c : CloseReason) : (s.closeLoad e c).channel = s.channel := by
  simp [State.closeLoad]
@[simp] theorem State.closeLoad_link (e : TruckEntry) (c : CloseReason) : (s.closeLoad e c).link = s.link := by
  simp [State.closeLoad]
@[simp] theorem State.closeLoad_free (e : TruckEntry) (c : CloseReason) : (s.closeLoad e c).free = s.free := by
  simp [State.closeLoad]

/-- The tally after a close claim is the closed one (R43, R44). -/
@[simp] theorem State.closeLoad_tally (e : TruckEntry) (c : CloseReason) :
    (s.closeLoad e c).tally = s.closedTally e c := by
  simp [State.closeLoad]

/-! ### State.spotChange -/

@[simp] theorem State.spotChange_pending (n : Nat) (h w i : Bool) : (s.spotChange n h w i).pending = s.pending := by
  unfold State.spotChange; (try dsimp only); (repeat' split) <;> simp
@[simp] theorem State.spotChange_pins (n : Nat) (h w i : Bool) : (s.spotChange n h w i).pins = s.pins := by
  unfold State.spotChange; (try dsimp only); (repeat' split) <;> simp
@[simp] theorem State.spotChange_station (n : Nat) (h w i : Bool) : (s.spotChange n h w i).station = s.station := by
  unfold State.spotChange; (try dsimp only); (repeat' split) <;> simp
@[simp] theorem State.spotChange_partTime (n : Nat) (h w i : Bool) : (s.spotChange n h w i).partTime = s.partTime := by
  unfold State.spotChange; (try dsimp only); (repeat' split) <;> simp
@[simp] theorem State.spotChange_subTime (n : Nat) (h w i : Bool) : (s.spotChange n h w i).subTime = s.subTime := by
  unfold State.spotChange; (try dsimp only); (repeat' split) <;> simp
@[simp] theorem State.spotChange_startup (n : Nat) (h w i : Bool) : (s.spotChange n h w i).startup = s.startup := by
  unfold State.spotChange; (try dsimp only); (repeat' split) <;> simp
@[simp] theorem State.spotChange_settings (n : Nat) (h w i : Bool) : (s.spotChange n h w i).settings = s.settings := by
  unfold State.spotChange; (try dsimp only); (repeat' split) <;> simp
@[simp] theorem State.spotChange_scan (n : Nat) (h w i : Bool) : (s.spotChange n h w i).scan = s.scan := by
  unfold State.spotChange; (try dsimp only); (repeat' split) <;> simp
@[simp] theorem State.spotChange_cycle (n : Nat) (h w i : Bool) : (s.spotChange n h w i).cycle = s.cycle := by
  unfold State.spotChange; (try dsimp only); (repeat' split) <;> simp
@[simp] theorem State.spotChange_weigh (n : Nat) (h w i : Bool) : (s.spotChange n h w i).weigh = s.weigh := by
  unfold State.spotChange; (try dsimp only); (repeat' split) <;> simp
@[simp] theorem State.spotChange_tally (n : Nat) (h w i : Bool) : (s.spotChange n h w i).tally = s.tally := by
  unfold State.spotChange; (try dsimp only); (repeat' split) <;> simp
@[simp] theorem State.spotChange_roster (n : Nat) (h w i : Bool) : (s.spotChange n h w i).roster = s.roster := by
  unfold State.spotChange; (try dsimp only); (repeat' split) <;> simp
@[simp] theorem State.spotChange_channel (n : Nat) (h w i : Bool) : (s.spotChange n h w i).channel = s.channel := by
  unfold State.spotChange; (try dsimp only); (repeat' split) <;> simp
@[simp] theorem State.spotChange_link (n : Nat) (h w i : Bool) : (s.spotChange n h w i).link = s.link := by
  unfold State.spotChange; (try dsimp only); (repeat' split) <;> simp
@[simp] theorem State.spotChange_free (n : Nat) (h w i : Bool) : (s.spotChange n h w i).free = s.free := by
  unfold State.spotChange; (try dsimp only); (repeat' split) <;> simp

/-! ### State.handEchoes -/

@[simp] theorem State.handEchoes_pending (b : TruckBeacon) : (s.handEchoes b).pending = s.pending := by simp [State.handEchoes]
@[simp] theorem State.handEchoes_pins (b : TruckBeacon) : (s.handEchoes b).pins = s.pins := by simp [State.handEchoes]
@[simp] theorem State.handEchoes_station (b : TruckBeacon) : (s.handEchoes b).station = s.station := by simp [State.handEchoes]
@[simp] theorem State.handEchoes_partTime (b : TruckBeacon) : (s.handEchoes b).partTime = s.partTime := by simp [State.handEchoes]
@[simp] theorem State.handEchoes_subTime (b : TruckBeacon) : (s.handEchoes b).subTime = s.subTime := by simp [State.handEchoes]
@[simp] theorem State.handEchoes_startup (b : TruckBeacon) : (s.handEchoes b).startup = s.startup := by simp [State.handEchoes]
@[simp] theorem State.handEchoes_settings (b : TruckBeacon) : (s.handEchoes b).settings = s.settings := by simp [State.handEchoes]
@[simp] theorem State.handEchoes_scan (b : TruckBeacon) : (s.handEchoes b).scan = s.scan := by simp [State.handEchoes]
@[simp] theorem State.handEchoes_cycle (b : TruckBeacon) : (s.handEchoes b).cycle = s.cycle := by simp [State.handEchoes]
@[simp] theorem State.handEchoes_weigh (b : TruckBeacon) : (s.handEchoes b).weigh = s.weigh := by simp [State.handEchoes]
@[simp] theorem State.handEchoes_roster (b : TruckBeacon) : (s.handEchoes b).roster = s.roster := by simp [State.handEchoes]
@[simp] theorem State.handEchoes_link (b : TruckBeacon) : (s.handEchoes b).link = s.link := by simp [State.handEchoes]
@[simp] theorem State.handEchoes_free (b : TruckBeacon) : (s.handEchoes b).free = s.free := by simp [State.handEchoes]

/-! ### State.refreshEntry -/

@[simp] theorem State.refreshEntry_pending (e : TruckEntry) (b : TruckBeacon) : (s.refreshEntry e b).pending = s.pending := by
  unfold State.refreshEntry; dsimp only; split <;> simp
@[simp] theorem State.refreshEntry_pins (e : TruckEntry) (b : TruckBeacon) : (s.refreshEntry e b).pins = s.pins := by
  unfold State.refreshEntry; dsimp only; split <;> simp
@[simp] theorem State.refreshEntry_station (e : TruckEntry) (b : TruckBeacon) : (s.refreshEntry e b).station = s.station := by
  unfold State.refreshEntry; dsimp only; split <;> simp
@[simp] theorem State.refreshEntry_partTime (e : TruckEntry) (b : TruckBeacon) : (s.refreshEntry e b).partTime = s.partTime := by
  unfold State.refreshEntry; dsimp only; split <;> simp
@[simp] theorem State.refreshEntry_subTime (e : TruckEntry) (b : TruckBeacon) : (s.refreshEntry e b).subTime = s.subTime := by
  unfold State.refreshEntry; dsimp only; split <;> simp
@[simp] theorem State.refreshEntry_startup (e : TruckEntry) (b : TruckBeacon) : (s.refreshEntry e b).startup = s.startup := by
  unfold State.refreshEntry; dsimp only; split <;> simp
@[simp] theorem State.refreshEntry_settings (e : TruckEntry) (b : TruckBeacon) : (s.refreshEntry e b).settings = s.settings := by
  unfold State.refreshEntry; dsimp only; split <;> simp
@[simp] theorem State.refreshEntry_scan (e : TruckEntry) (b : TruckBeacon) : (s.refreshEntry e b).scan = s.scan := by
  unfold State.refreshEntry; dsimp only; split <;> simp
@[simp] theorem State.refreshEntry_cycle (e : TruckEntry) (b : TruckBeacon) : (s.refreshEntry e b).cycle = s.cycle := by
  unfold State.refreshEntry; dsimp only; split <;> simp
@[simp] theorem State.refreshEntry_weigh (e : TruckEntry) (b : TruckBeacon) : (s.refreshEntry e b).weigh = s.weigh := by
  unfold State.refreshEntry; dsimp only; split <;> simp
@[simp] theorem State.refreshEntry_roster (e : TruckEntry) (b : TruckBeacon) : (s.refreshEntry e b).roster = s.roster := by
  unfold State.refreshEntry; dsimp only; split <;> simp
@[simp] theorem State.refreshEntry_channel (e : TruckEntry) (b : TruckBeacon) : (s.refreshEntry e b).channel = s.channel := by
  unfold State.refreshEntry; dsimp only; split <;> simp
@[simp] theorem State.refreshEntry_link (e : TruckEntry) (b : TruckBeacon) : (s.refreshEntry e b).link = s.link := by
  unfold State.refreshEntry; dsimp only; split <;> simp
@[simp] theorem State.refreshEntry_free (e : TruckEntry) (b : TruckBeacon) : (s.refreshEntry e b).free = s.free := by
  unfold State.refreshEntry; dsimp only; split <;> simp

/-! ### State.createEntry -/

@[simp] theorem State.createEntry_pending (b : TruckBeacon) : (s.createEntry b).pending = s.pending := by simp [State.createEntry]
@[simp] theorem State.createEntry_pins (b : TruckBeacon) : (s.createEntry b).pins = s.pins := by simp [State.createEntry]
@[simp] theorem State.createEntry_station (b : TruckBeacon) : (s.createEntry b).station = s.station := by simp [State.createEntry]
@[simp] theorem State.createEntry_partTime (b : TruckBeacon) : (s.createEntry b).partTime = s.partTime := by simp [State.createEntry]
@[simp] theorem State.createEntry_subTime (b : TruckBeacon) : (s.createEntry b).subTime = s.subTime := by simp [State.createEntry]
@[simp] theorem State.createEntry_startup (b : TruckBeacon) : (s.createEntry b).startup = s.startup := by simp [State.createEntry]
@[simp] theorem State.createEntry_settings (b : TruckBeacon) : (s.createEntry b).settings = s.settings := by simp [State.createEntry]
@[simp] theorem State.createEntry_scan (b : TruckBeacon) : (s.createEntry b).scan = s.scan := by simp [State.createEntry]
@[simp] theorem State.createEntry_cycle (b : TruckBeacon) : (s.createEntry b).cycle = s.cycle := by simp [State.createEntry]
@[simp] theorem State.createEntry_weigh (b : TruckBeacon) : (s.createEntry b).weigh = s.weigh := by simp [State.createEntry]
@[simp] theorem State.createEntry_tally (b : TruckBeacon) : (s.createEntry b).tally = s.tally := by simp [State.createEntry]
@[simp] theorem State.createEntry_roster (b : TruckBeacon) : (s.createEntry b).roster = s.roster := by simp [State.createEntry]
@[simp] theorem State.createEntry_channel (b : TruckBeacon) : (s.createEntry b).channel = s.channel := by simp [State.createEntry]
@[simp] theorem State.createEntry_link (b : TruckBeacon) : (s.createEntry b).link = s.link := by simp [State.createEntry]
@[simp] theorem State.createEntry_free (b : TruckBeacon) : (s.createEntry b).free = s.free := by simp [State.createEntry]

/-! ### State.takeTruckBeacon -/

@[simp] theorem State.takeTruckBeacon_pending (b : TruckBeacon) : (s.takeTruckBeacon b).pending = s.pending := by
  unfold State.takeTruckBeacon; (try dsimp only); (repeat' split) <;> simp
@[simp] theorem State.takeTruckBeacon_pins (b : TruckBeacon) : (s.takeTruckBeacon b).pins = s.pins := by
  unfold State.takeTruckBeacon; (try dsimp only); (repeat' split) <;> simp
@[simp] theorem State.takeTruckBeacon_station (b : TruckBeacon) : (s.takeTruckBeacon b).station = s.station := by
  unfold State.takeTruckBeacon; (try dsimp only); (repeat' split) <;> simp
@[simp] theorem State.takeTruckBeacon_partTime (b : TruckBeacon) : (s.takeTruckBeacon b).partTime = s.partTime := by
  unfold State.takeTruckBeacon; (try dsimp only); (repeat' split) <;> simp
@[simp] theorem State.takeTruckBeacon_subTime (b : TruckBeacon) : (s.takeTruckBeacon b).subTime = s.subTime := by
  unfold State.takeTruckBeacon; (try dsimp only); (repeat' split) <;> simp
@[simp] theorem State.takeTruckBeacon_startup (b : TruckBeacon) : (s.takeTruckBeacon b).startup = s.startup := by
  unfold State.takeTruckBeacon; (try dsimp only); (repeat' split) <;> simp
@[simp] theorem State.takeTruckBeacon_settings (b : TruckBeacon) : (s.takeTruckBeacon b).settings = s.settings := by
  unfold State.takeTruckBeacon; (try dsimp only); (repeat' split) <;> simp
@[simp] theorem State.takeTruckBeacon_scan (b : TruckBeacon) : (s.takeTruckBeacon b).scan = s.scan := by
  unfold State.takeTruckBeacon; (try dsimp only); (repeat' split) <;> simp
@[simp] theorem State.takeTruckBeacon_cycle (b : TruckBeacon) : (s.takeTruckBeacon b).cycle = s.cycle := by
  unfold State.takeTruckBeacon; (try dsimp only); (repeat' split) <;> simp
@[simp] theorem State.takeTruckBeacon_weigh (b : TruckBeacon) : (s.takeTruckBeacon b).weigh = s.weigh := by
  unfold State.takeTruckBeacon; (try dsimp only); (repeat' split) <;> simp
@[simp] theorem State.takeTruckBeacon_roster (b : TruckBeacon) : (s.takeTruckBeacon b).roster = s.roster := by
  unfold State.takeTruckBeacon; (try dsimp only); (repeat' split) <;> simp
@[simp] theorem State.takeTruckBeacon_link (b : TruckBeacon) : (s.takeTruckBeacon b).link = s.link := by
  unfold State.takeTruckBeacon; (try dsimp only); (repeat' split) <;> simp
@[simp] theorem State.takeTruckBeacon_free (b : TruckBeacon) : (s.takeTruckBeacon b).free = s.free := by
  unfold State.takeTruckBeacon; (try dsimp only); (repeat' split) <;> simp

/-! ### State.truckLost -/

@[simp] theorem State.truckLost_pending (n : Nat) : (s.truckLost n).pending = s.pending := by simp [State.truckLost]
@[simp] theorem State.truckLost_pins (n : Nat) : (s.truckLost n).pins = s.pins := by simp [State.truckLost]
@[simp] theorem State.truckLost_station (n : Nat) : (s.truckLost n).station = s.station := by simp [State.truckLost]
@[simp] theorem State.truckLost_partTime (n : Nat) : (s.truckLost n).partTime = s.partTime := by simp [State.truckLost]
@[simp] theorem State.truckLost_subTime (n : Nat) : (s.truckLost n).subTime = s.subTime := by simp [State.truckLost]
@[simp] theorem State.truckLost_startup (n : Nat) : (s.truckLost n).startup = s.startup := by simp [State.truckLost]
@[simp] theorem State.truckLost_settings (n : Nat) : (s.truckLost n).settings = s.settings := by simp [State.truckLost]
@[simp] theorem State.truckLost_scan (n : Nat) : (s.truckLost n).scan = s.scan := by simp [State.truckLost]
@[simp] theorem State.truckLost_cycle (n : Nat) : (s.truckLost n).cycle = s.cycle := by simp [State.truckLost]
@[simp] theorem State.truckLost_weigh (n : Nat) : (s.truckLost n).weigh = s.weigh := by simp [State.truckLost]
@[simp] theorem State.truckLost_tally (n : Nat) : (s.truckLost n).tally = s.tally := by simp [State.truckLost]
@[simp] theorem State.truckLost_roster (n : Nat) : (s.truckLost n).roster = s.roster := by simp [State.truckLost]
@[simp] theorem State.truckLost_channel (n : Nat) : (s.truckLost n).channel = s.channel := by simp [State.truckLost]
@[simp] theorem State.truckLost_link (n : Nat) : (s.truckLost n).link = s.link := by simp [State.truckLost]
@[simp] theorem State.truckLost_free (n : Nat) : (s.truckLost n).free = s.free := by simp [State.truckLost]

/-! ### State.truckRemoved -/

@[simp] theorem State.truckRemoved_pending (e : TruckEntry) : (s.truckRemoved e).pending = s.pending := by simp [State.truckRemoved]
@[simp] theorem State.truckRemoved_pins (e : TruckEntry) : (s.truckRemoved e).pins = s.pins := by simp [State.truckRemoved]
@[simp] theorem State.truckRemoved_station (e : TruckEntry) : (s.truckRemoved e).station = s.station := by simp [State.truckRemoved]
@[simp] theorem State.truckRemoved_partTime (e : TruckEntry) : (s.truckRemoved e).partTime = s.partTime := by simp [State.truckRemoved]
@[simp] theorem State.truckRemoved_subTime (e : TruckEntry) : (s.truckRemoved e).subTime = s.subTime := by simp [State.truckRemoved]
@[simp] theorem State.truckRemoved_startup (e : TruckEntry) : (s.truckRemoved e).startup = s.startup := by simp [State.truckRemoved]
@[simp] theorem State.truckRemoved_settings (e : TruckEntry) : (s.truckRemoved e).settings = s.settings := by simp [State.truckRemoved]
@[simp] theorem State.truckRemoved_scan (e : TruckEntry) : (s.truckRemoved e).scan = s.scan := by simp [State.truckRemoved]
@[simp] theorem State.truckRemoved_cycle (e : TruckEntry) : (s.truckRemoved e).cycle = s.cycle := by simp [State.truckRemoved]
@[simp] theorem State.truckRemoved_weigh (e : TruckEntry) : (s.truckRemoved e).weigh = s.weigh := by simp [State.truckRemoved]
@[simp] theorem State.truckRemoved_roster (e : TruckEntry) : (s.truckRemoved e).roster = s.roster := by simp [State.truckRemoved]
@[simp] theorem State.truckRemoved_channel (e : TruckEntry) : (s.truckRemoved e).channel = s.channel := by simp [State.truckRemoved]
@[simp] theorem State.truckRemoved_link (e : TruckEntry) : (s.truckRemoved e).link = s.link := by simp [State.truckRemoved]
@[simp] theorem State.truckRemoved_free (e : TruckEntry) : (s.truckRemoved e).free = s.free := by simp [State.truckRemoved]

/-! ### State.pressNext -/

@[simp] theorem State.pressNext_pending : (s.pressNext).pending = s.pending := by
  unfold State.pressNext; (try dsimp only); (repeat' split) <;> simp
@[simp] theorem State.pressNext_pins : (s.pressNext).pins = s.pins := by
  unfold State.pressNext; (try dsimp only); (repeat' split) <;> simp
@[simp] theorem State.pressNext_station : (s.pressNext).station = s.station := by
  unfold State.pressNext; (try dsimp only); (repeat' split) <;> simp
@[simp] theorem State.pressNext_partTime : (s.pressNext).partTime = s.partTime := by
  unfold State.pressNext; (try dsimp only); (repeat' split) <;> simp
@[simp] theorem State.pressNext_subTime : (s.pressNext).subTime = s.subTime := by
  unfold State.pressNext; (try dsimp only); (repeat' split) <;> simp
@[simp] theorem State.pressNext_startup : (s.pressNext).startup = s.startup := by
  unfold State.pressNext; (try dsimp only); (repeat' split) <;> simp
@[simp] theorem State.pressNext_settings : (s.pressNext).settings = s.settings := by
  unfold State.pressNext; (try dsimp only); (repeat' split) <;> simp
@[simp] theorem State.pressNext_scan : (s.pressNext).scan = s.scan := by
  unfold State.pressNext; (try dsimp only); (repeat' split) <;> simp
@[simp] theorem State.pressNext_cycle : (s.pressNext).cycle = s.cycle := by
  unfold State.pressNext; (try dsimp only); (repeat' split) <;> simp
@[simp] theorem State.pressNext_weigh : (s.pressNext).weigh = s.weigh := by
  unfold State.pressNext; (try dsimp only); (repeat' split) <;> simp
@[simp] theorem State.pressNext_tally : (s.pressNext).tally = s.tally := by
  unfold State.pressNext; (try dsimp only); (repeat' split) <;> simp
@[simp] theorem State.pressNext_roster : (s.pressNext).roster = s.roster := by
  unfold State.pressNext; (try dsimp only); (repeat' split) <;> simp
@[simp] theorem State.pressNext_channel : (s.pressNext).channel = s.channel := by
  unfold State.pressNext; (try dsimp only); (repeat' split) <;> simp
@[simp] theorem State.pressNext_link : (s.pressNext).link = s.link := by
  unfold State.pressNext; (try dsimp only); (repeat' split) <;> simp
@[simp] theorem State.pressNext_free : (s.pressNext).free = s.free := by
  unfold State.pressNext; (try dsimp only); (repeat' split) <;> simp

/-! ### State.rosterPart -/

@[simp] theorem State.rosterPart_pending (n : Nat) (p : PartFacts) : (s.rosterPart n p).pending = s.pending := by
  unfold State.rosterPart; (repeat' split) <;> simp
@[simp] theorem State.rosterPart_pins (n : Nat) (p : PartFacts) : (s.rosterPart n p).pins = s.pins := by
  unfold State.rosterPart; (repeat' split) <;> simp
@[simp] theorem State.rosterPart_station (n : Nat) (p : PartFacts) : (s.rosterPart n p).station = s.station := by
  unfold State.rosterPart; (repeat' split) <;> simp
@[simp] theorem State.rosterPart_partTime (n : Nat) (p : PartFacts) : (s.rosterPart n p).partTime = s.partTime := by
  unfold State.rosterPart; (repeat' split) <;> simp
@[simp] theorem State.rosterPart_subTime (n : Nat) (p : PartFacts) : (s.rosterPart n p).subTime = s.subTime := by
  unfold State.rosterPart; (repeat' split) <;> simp
@[simp] theorem State.rosterPart_startup (n : Nat) (p : PartFacts) : (s.rosterPart n p).startup = s.startup := by
  unfold State.rosterPart; (repeat' split) <;> simp
@[simp] theorem State.rosterPart_settings (n : Nat) (p : PartFacts) : (s.rosterPart n p).settings = s.settings := by
  unfold State.rosterPart; (repeat' split) <;> simp
@[simp] theorem State.rosterPart_scan (n : Nat) (p : PartFacts) : (s.rosterPart n p).scan = s.scan := by
  unfold State.rosterPart; (repeat' split) <;> simp
@[simp] theorem State.rosterPart_cycle (n : Nat) (p : PartFacts) : (s.rosterPart n p).cycle = s.cycle := by
  unfold State.rosterPart; (repeat' split) <;> simp
@[simp] theorem State.rosterPart_weigh (n : Nat) (p : PartFacts) : (s.rosterPart n p).weigh = s.weigh := by
  unfold State.rosterPart; (repeat' split) <;> simp
@[simp] theorem State.rosterPart_trucks (n : Nat) (p : PartFacts) : (s.rosterPart n p).trucks = s.trucks := by
  unfold State.rosterPart; (repeat' split) <;> simp
@[simp] theorem State.rosterPart_tally (n : Nat) (p : PartFacts) : (s.rosterPart n p).tally = s.tally := by
  unfold State.rosterPart; (repeat' split) <;> simp
@[simp] theorem State.rosterPart_channel (n : Nat) (p : PartFacts) : (s.rosterPart n p).channel = s.channel := by
  unfold State.rosterPart; (repeat' split) <;> simp
@[simp] theorem State.rosterPart_link (n : Nat) (p : PartFacts) : (s.rosterPart n p).link = s.link := by
  unfold State.rosterPart; (repeat' split) <;> simp
@[simp] theorem State.rosterPart_panel (n : Nat) (p : PartFacts) : (s.rosterPart n p).panel = s.panel := by
  unfold State.rosterPart; (repeat' split) <;> simp
@[simp] theorem State.rosterPart_free (n : Nat) (p : PartFacts) : (s.rosterPart n p).free = s.free := by
  unfold State.rosterPart; (repeat' split) <;> simp

/-! ### State.rosterNotice -/

@[simp] theorem State.rosterNotice_pending (n : Nat) : (s.rosterNotice n).pending = s.pending := by
  unfold State.rosterNotice; (repeat' split) <;> simp
@[simp] theorem State.rosterNotice_pins (n : Nat) : (s.rosterNotice n).pins = s.pins := by
  unfold State.rosterNotice; (repeat' split) <;> simp
@[simp] theorem State.rosterNotice_station (n : Nat) : (s.rosterNotice n).station = s.station := by
  unfold State.rosterNotice; (repeat' split) <;> simp
@[simp] theorem State.rosterNotice_partTime (n : Nat) : (s.rosterNotice n).partTime = s.partTime := by
  unfold State.rosterNotice; (repeat' split) <;> simp
@[simp] theorem State.rosterNotice_subTime (n : Nat) : (s.rosterNotice n).subTime = s.subTime := by
  unfold State.rosterNotice; (repeat' split) <;> simp
@[simp] theorem State.rosterNotice_startup (n : Nat) : (s.rosterNotice n).startup = s.startup := by
  unfold State.rosterNotice; (repeat' split) <;> simp
@[simp] theorem State.rosterNotice_settings (n : Nat) : (s.rosterNotice n).settings = s.settings := by
  unfold State.rosterNotice; (repeat' split) <;> simp
@[simp] theorem State.rosterNotice_scan (n : Nat) : (s.rosterNotice n).scan = s.scan := by
  unfold State.rosterNotice; (repeat' split) <;> simp
@[simp] theorem State.rosterNotice_cycle (n : Nat) : (s.rosterNotice n).cycle = s.cycle := by
  unfold State.rosterNotice; (repeat' split) <;> simp
@[simp] theorem State.rosterNotice_weigh (n : Nat) : (s.rosterNotice n).weigh = s.weigh := by
  unfold State.rosterNotice; (repeat' split) <;> simp
@[simp] theorem State.rosterNotice_trucks (n : Nat) : (s.rosterNotice n).trucks = s.trucks := by
  unfold State.rosterNotice; (repeat' split) <;> simp
@[simp] theorem State.rosterNotice_tally (n : Nat) : (s.rosterNotice n).tally = s.tally := by
  unfold State.rosterNotice; (repeat' split) <;> simp
@[simp] theorem State.rosterNotice_channel (n : Nat) : (s.rosterNotice n).channel = s.channel := by
  unfold State.rosterNotice; (repeat' split) <;> simp
@[simp] theorem State.rosterNotice_link (n : Nat) : (s.rosterNotice n).link = s.link := by
  unfold State.rosterNotice; (repeat' split) <;> simp
@[simp] theorem State.rosterNotice_panel (n : Nat) : (s.rosterNotice n).panel = s.panel := by
  unfold State.rosterNotice; (repeat' split) <;> simp
@[simp] theorem State.rosterNotice_free (n : Nat) : (s.rosterNotice n).free = s.free := by
  unfold State.rosterNotice; (repeat' split) <;> simp

/-! ### State.armForWeigh -/

@[simp] theorem State.armForWeigh_pending : (s.armForWeigh).pending = s.pending := by
  unfold State.armForWeigh; (try dsimp only); (repeat' split) <;> simp
@[simp] theorem State.armForWeigh_pins : (s.armForWeigh).pins = s.pins := by
  unfold State.armForWeigh; (try dsimp only); (repeat' split) <;> simp
@[simp] theorem State.armForWeigh_station : (s.armForWeigh).station = s.station := by
  unfold State.armForWeigh; (try dsimp only); (repeat' split) <;> simp
@[simp] theorem State.armForWeigh_partTime : (s.armForWeigh).partTime = s.partTime := by
  unfold State.armForWeigh; (try dsimp only); (repeat' split) <;> simp
@[simp] theorem State.armForWeigh_subTime : (s.armForWeigh).subTime = s.subTime := by
  unfold State.armForWeigh; (try dsimp only); (repeat' split) <;> simp
@[simp] theorem State.armForWeigh_startup : (s.armForWeigh).startup = s.startup := by
  unfold State.armForWeigh; (try dsimp only); (repeat' split) <;> simp
@[simp] theorem State.armForWeigh_settings : (s.armForWeigh).settings = s.settings := by
  unfold State.armForWeigh; (try dsimp only); (repeat' split) <;> simp
@[simp] theorem State.armForWeigh_scan : (s.armForWeigh).scan = s.scan := by
  unfold State.armForWeigh; (try dsimp only); (repeat' split) <;> simp
@[simp] theorem State.armForWeigh_cycle : (s.armForWeigh).cycle = s.cycle := by
  unfold State.armForWeigh; (try dsimp only); (repeat' split) <;> simp
@[simp] theorem State.armForWeigh_trucks : (s.armForWeigh).trucks = s.trucks := by
  unfold State.armForWeigh; (try dsimp only); (repeat' split) <;> simp
@[simp] theorem State.armForWeigh_tally : (s.armForWeigh).tally = s.tally := by
  unfold State.armForWeigh; (try dsimp only); (repeat' split) <;> simp
@[simp] theorem State.armForWeigh_roster : (s.armForWeigh).roster = s.roster := by
  unfold State.armForWeigh; (try dsimp only); (repeat' split) <;> simp
@[simp] theorem State.armForWeigh_channel : (s.armForWeigh).channel = s.channel := by
  unfold State.armForWeigh; (try dsimp only); (repeat' split) <;> simp
@[simp] theorem State.armForWeigh_link : (s.armForWeigh).link = s.link := by
  unfold State.armForWeigh; (try dsimp only); (repeat' split) <;> simp
@[simp] theorem State.armForWeigh_panel : (s.armForWeigh).panel = s.panel := by
  unfold State.armForWeigh; (try dsimp only); (repeat' split) <;> simp
@[simp] theorem State.armForWeigh_free : (s.armForWeigh).free = s.free := by
  unfold State.armForWeigh; (try dsimp only); (repeat' split) <;> simp

/-! ### State.leaveEmpty -/

@[simp] theorem State.leaveEmpty_pending : (s.leaveEmpty).pending = s.pending := by
  unfold State.leaveEmpty; (repeat' split) <;> simp
@[simp] theorem State.leaveEmpty_pins : (s.leaveEmpty).pins = s.pins := by
  unfold State.leaveEmpty; (repeat' split) <;> simp
@[simp] theorem State.leaveEmpty_station : (s.leaveEmpty).station = s.station := by
  unfold State.leaveEmpty; (repeat' split) <;> simp
@[simp] theorem State.leaveEmpty_partTime : (s.leaveEmpty).partTime = s.partTime := by
  unfold State.leaveEmpty; (repeat' split) <;> simp
@[simp] theorem State.leaveEmpty_subTime : (s.leaveEmpty).subTime = s.subTime := by
  unfold State.leaveEmpty; (repeat' split) <;> simp
@[simp] theorem State.leaveEmpty_startup : (s.leaveEmpty).startup = s.startup := by
  unfold State.leaveEmpty; (repeat' split) <;> simp
@[simp] theorem State.leaveEmpty_settings : (s.leaveEmpty).settings = s.settings := by
  unfold State.leaveEmpty; (repeat' split) <;> simp
@[simp] theorem State.leaveEmpty_scan : (s.leaveEmpty).scan = s.scan := by
  unfold State.leaveEmpty; (repeat' split) <;> simp
@[simp] theorem State.leaveEmpty_cycle : (s.leaveEmpty).cycle = s.cycle := by
  unfold State.leaveEmpty; (repeat' split) <;> simp
@[simp] theorem State.leaveEmpty_trucks : (s.leaveEmpty).trucks = s.trucks := by
  unfold State.leaveEmpty; (repeat' split) <;> simp
@[simp] theorem State.leaveEmpty_tally : (s.leaveEmpty).tally = s.tally := by
  unfold State.leaveEmpty; (repeat' split) <;> simp
@[simp] theorem State.leaveEmpty_roster : (s.leaveEmpty).roster = s.roster := by
  unfold State.leaveEmpty; (repeat' split) <;> simp
@[simp] theorem State.leaveEmpty_channel : (s.leaveEmpty).channel = s.channel := by
  unfold State.leaveEmpty; (repeat' split) <;> simp
@[simp] theorem State.leaveEmpty_link : (s.leaveEmpty).link = s.link := by
  unfold State.leaveEmpty; (repeat' split) <;> simp
@[simp] theorem State.leaveEmpty_free : (s.leaveEmpty).free = s.free := by
  unfold State.leaveEmpty; (repeat' split) <;> simp

/-! ### State.abortCapture -/

@[simp] theorem State.abortCapture_pending : (s.abortCapture).pending = s.pending := by
  unfold State.abortCapture; (try dsimp only); (repeat' split) <;> simp
@[simp] theorem State.abortCapture_pins : (s.abortCapture).pins = s.pins := by
  unfold State.abortCapture; (try dsimp only); (repeat' split) <;> simp
@[simp] theorem State.abortCapture_station : (s.abortCapture).station = s.station := by
  unfold State.abortCapture; (try dsimp only); (repeat' split) <;> simp
@[simp] theorem State.abortCapture_partTime : (s.abortCapture).partTime = s.partTime := by
  unfold State.abortCapture; (try dsimp only); (repeat' split) <;> simp
@[simp] theorem State.abortCapture_subTime : (s.abortCapture).subTime = s.subTime := by
  unfold State.abortCapture; (try dsimp only); (repeat' split) <;> simp
@[simp] theorem State.abortCapture_startup : (s.abortCapture).startup = s.startup := by
  unfold State.abortCapture; (try dsimp only); (repeat' split) <;> simp
@[simp] theorem State.abortCapture_settings : (s.abortCapture).settings = s.settings := by
  unfold State.abortCapture; (try dsimp only); (repeat' split) <;> simp
@[simp] theorem State.abortCapture_scan : (s.abortCapture).scan = s.scan := by
  unfold State.abortCapture; (try dsimp only); (repeat' split) <;> simp
@[simp] theorem State.abortCapture_cycle : (s.abortCapture).cycle = s.cycle := by
  unfold State.abortCapture; (try dsimp only); (repeat' split) <;> simp
@[simp] theorem State.abortCapture_trucks : (s.abortCapture).trucks = s.trucks := by
  unfold State.abortCapture; (try dsimp only); (repeat' split) <;> simp
@[simp] theorem State.abortCapture_tally : (s.abortCapture).tally = s.tally := by
  unfold State.abortCapture; (try dsimp only); (repeat' split) <;> simp
@[simp] theorem State.abortCapture_roster : (s.abortCapture).roster = s.roster := by
  unfold State.abortCapture; (try dsimp only); (repeat' split) <;> simp
@[simp] theorem State.abortCapture_channel : (s.abortCapture).channel = s.channel := by
  unfold State.abortCapture; (try dsimp only); (repeat' split) <;> simp
@[simp] theorem State.abortCapture_link : (s.abortCapture).link = s.link := by
  unfold State.abortCapture; (try dsimp only); (repeat' split) <;> simp
@[simp] theorem State.abortCapture_free : (s.abortCapture).free = s.free := by
  unfold State.abortCapture; (try dsimp only); (repeat' split) <;> simp

/-! ### State.completeTare -/

@[simp] theorem State.completeTare_pending : (s.completeTare).pending = s.pending := by
  unfold State.completeTare; (try dsimp only); (repeat' split) <;> simp
@[simp] theorem State.completeTare_pins : (s.completeTare).pins = s.pins := by
  unfold State.completeTare; (try dsimp only); (repeat' split) <;> simp
@[simp] theorem State.completeTare_station : (s.completeTare).station = s.station := by
  unfold State.completeTare; (try dsimp only); (repeat' split) <;> simp
@[simp] theorem State.completeTare_partTime : (s.completeTare).partTime = s.partTime := by
  unfold State.completeTare; (try dsimp only); (repeat' split) <;> simp
@[simp] theorem State.completeTare_subTime : (s.completeTare).subTime = s.subTime := by
  unfold State.completeTare; (try dsimp only); (repeat' split) <;> simp
@[simp] theorem State.completeTare_startup : (s.completeTare).startup = s.startup := by
  unfold State.completeTare; (try dsimp only); (repeat' split) <;> simp
@[simp] theorem State.completeTare_settings : (s.completeTare).settings = s.settings := by
  unfold State.completeTare; (try dsimp only); (repeat' split) <;> simp
@[simp] theorem State.completeTare_scan : (s.completeTare).scan = s.scan := by
  unfold State.completeTare; (try dsimp only); (repeat' split) <;> simp
@[simp] theorem State.completeTare_cycle : (s.completeTare).cycle = s.cycle := by
  unfold State.completeTare; (try dsimp only); (repeat' split) <;> simp
@[simp] theorem State.completeTare_trucks : (s.completeTare).trucks = s.trucks := by
  unfold State.completeTare; (try dsimp only); (repeat' split) <;> simp
@[simp] theorem State.completeTare_tally : (s.completeTare).tally = s.tally := by
  unfold State.completeTare; (try dsimp only); (repeat' split) <;> simp
@[simp] theorem State.completeTare_roster : (s.completeTare).roster = s.roster := by
  unfold State.completeTare; (try dsimp only); (repeat' split) <;> simp
@[simp] theorem State.completeTare_channel : (s.completeTare).channel = s.channel := by
  unfold State.completeTare; (try dsimp only); (repeat' split) <;> simp
@[simp] theorem State.completeTare_link : (s.completeTare).link = s.link := by
  unfold State.completeTare; (try dsimp only); (repeat' split) <;> simp
@[simp] theorem State.completeTare_free : (s.completeTare).free = s.free := by
  unfold State.completeTare; (try dsimp only); (repeat' split) <;> simp

/-! ### State.completeCapture -/

@[simp] theorem State.completeCapture_pending : (s.completeCapture).pending = s.pending := by
  unfold State.completeCapture; (try dsimp only); (repeat' split) <;> simp
@[simp] theorem State.completeCapture_pins : (s.completeCapture).pins = s.pins := by
  unfold State.completeCapture; (try dsimp only); (repeat' split) <;> simp
@[simp] theorem State.completeCapture_station : (s.completeCapture).station = s.station := by
  unfold State.completeCapture; (try dsimp only); (repeat' split) <;> simp
@[simp] theorem State.completeCapture_partTime : (s.completeCapture).partTime = s.partTime := by
  unfold State.completeCapture; (try dsimp only); (repeat' split) <;> simp
@[simp] theorem State.completeCapture_subTime : (s.completeCapture).subTime = s.subTime := by
  unfold State.completeCapture; (try dsimp only); (repeat' split) <;> simp
@[simp] theorem State.completeCapture_startup : (s.completeCapture).startup = s.startup := by
  unfold State.completeCapture; (try dsimp only); (repeat' split) <;> simp
@[simp] theorem State.completeCapture_settings : (s.completeCapture).settings = s.settings := by
  unfold State.completeCapture; (try dsimp only); (repeat' split) <;> simp
@[simp] theorem State.completeCapture_scan : (s.completeCapture).scan = s.scan := by
  unfold State.completeCapture; (try dsimp only); (repeat' split) <;> simp
@[simp] theorem State.completeCapture_cycle : (s.completeCapture).cycle = s.cycle := by
  unfold State.completeCapture; (try dsimp only); (repeat' split) <;> simp
@[simp] theorem State.completeCapture_trucks : (s.completeCapture).trucks = s.trucks := by
  unfold State.completeCapture; (try dsimp only); (repeat' split) <;> simp
@[simp] theorem State.completeCapture_tally : (s.completeCapture).tally = s.tally := by
  unfold State.completeCapture; (try dsimp only); (repeat' split) <;> simp
@[simp] theorem State.completeCapture_roster : (s.completeCapture).roster = s.roster := by
  unfold State.completeCapture; (try dsimp only); (repeat' split) <;> simp
@[simp] theorem State.completeCapture_channel : (s.completeCapture).channel = s.channel := by
  unfold State.completeCapture; (try dsimp only); (repeat' split) <;> simp
@[simp] theorem State.completeCapture_link : (s.completeCapture).link = s.link := by
  unfold State.completeCapture; (try dsimp only); (repeat' split) <;> simp
@[simp] theorem State.completeCapture_free : (s.completeCapture).free = s.free := by
  unfold State.completeCapture; (try dsimp only); (repeat' split) <;> simp

/-! ### State.scanInCapture -/

@[simp] theorem State.scanInCapture_pending (b : Int) (r : Option LoadReading) : (s.scanInCapture b r).pending = s.pending := by
  unfold State.scanInCapture; split
  · simp
  · dsimp only; split
    · simp
    · split <;> simp
@[simp] theorem State.scanInCapture_pins (b : Int) (r : Option LoadReading) : (s.scanInCapture b r).pins = s.pins := by
  unfold State.scanInCapture; split
  · simp
  · dsimp only; split
    · simp
    · split <;> simp
@[simp] theorem State.scanInCapture_station (b : Int) (r : Option LoadReading) : (s.scanInCapture b r).station = s.station := by
  unfold State.scanInCapture; split
  · simp
  · dsimp only; split
    · simp
    · split <;> simp
@[simp] theorem State.scanInCapture_partTime (b : Int) (r : Option LoadReading) : (s.scanInCapture b r).partTime = s.partTime := by
  unfold State.scanInCapture; split
  · simp
  · dsimp only; split
    · simp
    · split <;> simp
@[simp] theorem State.scanInCapture_subTime (b : Int) (r : Option LoadReading) : (s.scanInCapture b r).subTime = s.subTime := by
  unfold State.scanInCapture; split
  · simp
  · dsimp only; split
    · simp
    · split <;> simp
@[simp] theorem State.scanInCapture_startup (b : Int) (r : Option LoadReading) : (s.scanInCapture b r).startup = s.startup := by
  unfold State.scanInCapture; split
  · simp
  · dsimp only; split
    · simp
    · split <;> simp
@[simp] theorem State.scanInCapture_settings (b : Int) (r : Option LoadReading) : (s.scanInCapture b r).settings = s.settings := by
  unfold State.scanInCapture; split
  · simp
  · dsimp only; split
    · simp
    · split <;> simp
@[simp] theorem State.scanInCapture_scan (b : Int) (r : Option LoadReading) : (s.scanInCapture b r).scan = s.scan := by
  unfold State.scanInCapture; split
  · simp
  · dsimp only; split
    · simp
    · split <;> simp
@[simp] theorem State.scanInCapture_cycle (b : Int) (r : Option LoadReading) : (s.scanInCapture b r).cycle = s.cycle := by
  unfold State.scanInCapture; split
  · simp
  · dsimp only; split
    · simp
    · split <;> simp
@[simp] theorem State.scanInCapture_trucks (b : Int) (r : Option LoadReading) : (s.scanInCapture b r).trucks = s.trucks := by
  unfold State.scanInCapture; split
  · simp
  · dsimp only; split
    · simp
    · split <;> simp
@[simp] theorem State.scanInCapture_tally (b : Int) (r : Option LoadReading) : (s.scanInCapture b r).tally = s.tally := by
  unfold State.scanInCapture; split
  · simp
  · dsimp only; split
    · simp
    · split <;> simp
@[simp] theorem State.scanInCapture_roster (b : Int) (r : Option LoadReading) : (s.scanInCapture b r).roster = s.roster := by
  unfold State.scanInCapture; split
  · simp
  · dsimp only; split
    · simp
    · split <;> simp
@[simp] theorem State.scanInCapture_channel (b : Int) (r : Option LoadReading) : (s.scanInCapture b r).channel = s.channel := by
  unfold State.scanInCapture; split
  · simp
  · dsimp only; split
    · simp
    · split <;> simp
@[simp] theorem State.scanInCapture_link (b : Int) (r : Option LoadReading) : (s.scanInCapture b r).link = s.link := by
  unfold State.scanInCapture; split
  · simp
  · dsimp only; split
    · simp
    · split <;> simp
@[simp] theorem State.scanInCapture_free (b : Int) (r : Option LoadReading) : (s.scanInCapture b r).free = s.free := by
  unfold State.scanInCapture; split
  · simp
  · dsimp only; split
    · simp
    · split <;> simp

/-! ### State.crossing -/

@[simp] theorem State.crossing_pending (b : Int) (r : Option LoadReading) : (s.crossing b r).pending = s.pending := by
  unfold State.crossing; dsimp only; split <;> simp
@[simp] theorem State.crossing_pins (b : Int) (r : Option LoadReading) : (s.crossing b r).pins = s.pins := by
  unfold State.crossing; dsimp only; split <;> simp
@[simp] theorem State.crossing_station (b : Int) (r : Option LoadReading) : (s.crossing b r).station = s.station := by
  unfold State.crossing; dsimp only; split <;> simp
@[simp] theorem State.crossing_partTime (b : Int) (r : Option LoadReading) : (s.crossing b r).partTime = s.partTime := by
  unfold State.crossing; dsimp only; split <;> simp
@[simp] theorem State.crossing_subTime (b : Int) (r : Option LoadReading) : (s.crossing b r).subTime = s.subTime := by
  unfold State.crossing; dsimp only; split <;> simp
@[simp] theorem State.crossing_startup (b : Int) (r : Option LoadReading) : (s.crossing b r).startup = s.startup := by
  unfold State.crossing; dsimp only; split <;> simp
@[simp] theorem State.crossing_settings (b : Int) (r : Option LoadReading) : (s.crossing b r).settings = s.settings := by
  unfold State.crossing; dsimp only; split <;> simp
@[simp] theorem State.crossing_scan (b : Int) (r : Option LoadReading) : (s.crossing b r).scan = s.scan := by
  unfold State.crossing; dsimp only; split <;> simp
@[simp] theorem State.crossing_cycle (b : Int) (r : Option LoadReading) : (s.crossing b r).cycle = s.cycle := by
  unfold State.crossing; dsimp only; split <;> simp
@[simp] theorem State.crossing_trucks (b : Int) (r : Option LoadReading) : (s.crossing b r).trucks = s.trucks := by
  unfold State.crossing; dsimp only; split <;> simp
@[simp] theorem State.crossing_tally (b : Int) (r : Option LoadReading) : (s.crossing b r).tally = s.tally := by
  unfold State.crossing; dsimp only; split <;> simp
@[simp] theorem State.crossing_roster (b : Int) (r : Option LoadReading) : (s.crossing b r).roster = s.roster := by
  unfold State.crossing; dsimp only; split <;> simp
@[simp] theorem State.crossing_channel (b : Int) (r : Option LoadReading) : (s.crossing b r).channel = s.channel := by
  unfold State.crossing; dsimp only; split <;> simp
@[simp] theorem State.crossing_link (b : Int) (r : Option LoadReading) : (s.crossing b r).link = s.link := by
  unfold State.crossing; dsimp only; split <;> simp
@[simp] theorem State.crossing_free (b : Int) (r : Option LoadReading) : (s.crossing b r).free = s.free := by
  unfold State.crossing; dsimp only; split <;> simp

/-! ### State.scanInDelay -/

@[simp] theorem State.scanInDelay_pending (b : Int) : (s.scanInDelay b).pending = s.pending := by
  unfold State.scanInDelay; dsimp only; split <;> simp
@[simp] theorem State.scanInDelay_pins (b : Int) : (s.scanInDelay b).pins = s.pins := by
  unfold State.scanInDelay; dsimp only; split <;> simp
@[simp] theorem State.scanInDelay_station (b : Int) : (s.scanInDelay b).station = s.station := by
  unfold State.scanInDelay; dsimp only; split <;> simp
@[simp] theorem State.scanInDelay_partTime (b : Int) : (s.scanInDelay b).partTime = s.partTime := by
  unfold State.scanInDelay; dsimp only; split <;> simp
@[simp] theorem State.scanInDelay_subTime (b : Int) : (s.scanInDelay b).subTime = s.subTime := by
  unfold State.scanInDelay; dsimp only; split <;> simp
@[simp] theorem State.scanInDelay_startup (b : Int) : (s.scanInDelay b).startup = s.startup := by
  unfold State.scanInDelay; dsimp only; split <;> simp
@[simp] theorem State.scanInDelay_settings (b : Int) : (s.scanInDelay b).settings = s.settings := by
  unfold State.scanInDelay; dsimp only; split <;> simp
@[simp] theorem State.scanInDelay_scan (b : Int) : (s.scanInDelay b).scan = s.scan := by
  unfold State.scanInDelay; dsimp only; split <;> simp
@[simp] theorem State.scanInDelay_cycle (b : Int) : (s.scanInDelay b).cycle = s.cycle := by
  unfold State.scanInDelay; dsimp only; split <;> simp
@[simp] theorem State.scanInDelay_trucks (b : Int) : (s.scanInDelay b).trucks = s.trucks := by
  unfold State.scanInDelay; dsimp only; split <;> simp
@[simp] theorem State.scanInDelay_tally (b : Int) : (s.scanInDelay b).tally = s.tally := by
  unfold State.scanInDelay; dsimp only; split <;> simp
@[simp] theorem State.scanInDelay_roster (b : Int) : (s.scanInDelay b).roster = s.roster := by
  unfold State.scanInDelay; dsimp only; split <;> simp
@[simp] theorem State.scanInDelay_channel (b : Int) : (s.scanInDelay b).channel = s.channel := by
  unfold State.scanInDelay; dsimp only; split <;> simp
@[simp] theorem State.scanInDelay_link (b : Int) : (s.scanInDelay b).link = s.link := by
  unfold State.scanInDelay; dsimp only; split <;> simp
@[simp] theorem State.scanInDelay_free (b : Int) : (s.scanInDelay b).free = s.free := by
  unfold State.scanInDelay; dsimp only; split <;> simp

/-! ### State.usableScan -/

@[simp] theorem State.usableScan_pending (b : Int) (r : Option LoadReading) : (s.usableScan b r).pending = s.pending := by
  unfold State.usableScan; dsimp only; split <;> (try split) <;> simp
@[simp] theorem State.usableScan_pins (b : Int) (r : Option LoadReading) : (s.usableScan b r).pins = s.pins := by
  unfold State.usableScan; dsimp only; split <;> (try split) <;> simp
@[simp] theorem State.usableScan_station (b : Int) (r : Option LoadReading) : (s.usableScan b r).station = s.station := by
  unfold State.usableScan; dsimp only; split <;> (try split) <;> simp
@[simp] theorem State.usableScan_partTime (b : Int) (r : Option LoadReading) : (s.usableScan b r).partTime = s.partTime := by
  unfold State.usableScan; dsimp only; split <;> (try split) <;> simp
@[simp] theorem State.usableScan_subTime (b : Int) (r : Option LoadReading) : (s.usableScan b r).subTime = s.subTime := by
  unfold State.usableScan; dsimp only; split <;> (try split) <;> simp
@[simp] theorem State.usableScan_startup (b : Int) (r : Option LoadReading) : (s.usableScan b r).startup = s.startup := by
  unfold State.usableScan; dsimp only; split <;> (try split) <;> simp
@[simp] theorem State.usableScan_settings (b : Int) (r : Option LoadReading) : (s.usableScan b r).settings = s.settings := by
  unfold State.usableScan; dsimp only; split <;> (try split) <;> simp
@[simp] theorem State.usableScan_scan (b : Int) (r : Option LoadReading) : (s.usableScan b r).scan = s.scan := by
  unfold State.usableScan; dsimp only; split <;> (try split) <;> simp
@[simp] theorem State.usableScan_cycle (b : Int) (r : Option LoadReading) : (s.usableScan b r).cycle = s.cycle := by
  unfold State.usableScan; dsimp only; split <;> (try split) <;> simp
@[simp] theorem State.usableScan_trucks (b : Int) (r : Option LoadReading) : (s.usableScan b r).trucks = s.trucks := by
  unfold State.usableScan; dsimp only; split <;> (try split) <;> simp
@[simp] theorem State.usableScan_tally (b : Int) (r : Option LoadReading) : (s.usableScan b r).tally = s.tally := by
  unfold State.usableScan; dsimp only; split <;> (try split) <;> simp
@[simp] theorem State.usableScan_roster (b : Int) (r : Option LoadReading) : (s.usableScan b r).roster = s.roster := by
  unfold State.usableScan; dsimp only; split <;> (try split) <;> simp
@[simp] theorem State.usableScan_channel (b : Int) (r : Option LoadReading) : (s.usableScan b r).channel = s.channel := by
  unfold State.usableScan; dsimp only; split <;> (try split) <;> simp
@[simp] theorem State.usableScan_link (b : Int) (r : Option LoadReading) : (s.usableScan b r).link = s.link := by
  unfold State.usableScan; dsimp only; split <;> (try split) <;> simp
@[simp] theorem State.usableScan_free (b : Int) (r : Option LoadReading) : (s.usableScan b r).free = s.free := by
  unfold State.usableScan; dsimp only; split <;> (try split) <;> simp

/-! ### State.weighScan -/

@[simp] theorem State.weighScan_pending (c : Scan) : (s.weighScan c).pending = s.pending := by
  unfold State.weighScan; (try dsimp only); (repeat' split) <;> simp
@[simp] theorem State.weighScan_pins (c : Scan) : (s.weighScan c).pins = s.pins := by
  unfold State.weighScan; (try dsimp only); (repeat' split) <;> simp
@[simp] theorem State.weighScan_station (c : Scan) : (s.weighScan c).station = s.station := by
  unfold State.weighScan; (try dsimp only); (repeat' split) <;> simp
@[simp] theorem State.weighScan_partTime (c : Scan) : (s.weighScan c).partTime = s.partTime := by
  unfold State.weighScan; (try dsimp only); (repeat' split) <;> simp
@[simp] theorem State.weighScan_subTime (c : Scan) : (s.weighScan c).subTime = s.subTime := by
  unfold State.weighScan; (try dsimp only); (repeat' split) <;> simp
@[simp] theorem State.weighScan_startup (c : Scan) : (s.weighScan c).startup = s.startup := by
  unfold State.weighScan; (try dsimp only); (repeat' split) <;> simp
@[simp] theorem State.weighScan_settings (c : Scan) : (s.weighScan c).settings = s.settings := by
  unfold State.weighScan; (try dsimp only); (repeat' split) <;> simp
@[simp] theorem State.weighScan_scan (c : Scan) : (s.weighScan c).scan = s.scan := by
  unfold State.weighScan; (try dsimp only); (repeat' split) <;> simp
@[simp] theorem State.weighScan_cycle (c : Scan) : (s.weighScan c).cycle = s.cycle := by
  unfold State.weighScan; (try dsimp only); (repeat' split) <;> simp
@[simp] theorem State.weighScan_trucks (c : Scan) : (s.weighScan c).trucks = s.trucks := by
  unfold State.weighScan; (try dsimp only); (repeat' split) <;> simp
@[simp] theorem State.weighScan_tally (c : Scan) : (s.weighScan c).tally = s.tally := by
  unfold State.weighScan; (try dsimp only); (repeat' split) <;> simp
@[simp] theorem State.weighScan_roster (c : Scan) : (s.weighScan c).roster = s.roster := by
  unfold State.weighScan; (try dsimp only); (repeat' split) <;> simp
@[simp] theorem State.weighScan_channel (c : Scan) : (s.weighScan c).channel = s.channel := by
  unfold State.weighScan; (try dsimp only); (repeat' split) <;> simp
@[simp] theorem State.weighScan_link (c : Scan) : (s.weighScan c).link = s.link := by
  unfold State.weighScan; (try dsimp only); (repeat' split) <;> simp
@[simp] theorem State.weighScan_free (c : Scan) : (s.weighScan c).free = s.free := by
  unfold State.weighScan; (try dsimp only); (repeat' split) <;> simp

/-! ### State.blockWeigh -/

@[simp] theorem State.blockWeigh_pending : (s.blockWeigh).pending = s.pending := by
  unfold State.blockWeigh; (repeat' split) <;> simp
@[simp] theorem State.blockWeigh_pins : (s.blockWeigh).pins = s.pins := by
  unfold State.blockWeigh; (repeat' split) <;> simp
@[simp] theorem State.blockWeigh_station : (s.blockWeigh).station = s.station := by
  unfold State.blockWeigh; (repeat' split) <;> simp
@[simp] theorem State.blockWeigh_partTime : (s.blockWeigh).partTime = s.partTime := by
  unfold State.blockWeigh; (repeat' split) <;> simp
@[simp] theorem State.blockWeigh_subTime : (s.blockWeigh).subTime = s.subTime := by
  unfold State.blockWeigh; (repeat' split) <;> simp
@[simp] theorem State.blockWeigh_startup : (s.blockWeigh).startup = s.startup := by
  unfold State.blockWeigh; (repeat' split) <;> simp
@[simp] theorem State.blockWeigh_settings : (s.blockWeigh).settings = s.settings := by
  unfold State.blockWeigh; (repeat' split) <;> simp
@[simp] theorem State.blockWeigh_scan : (s.blockWeigh).scan = s.scan := by
  unfold State.blockWeigh; (repeat' split) <;> simp
@[simp] theorem State.blockWeigh_cycle : (s.blockWeigh).cycle = s.cycle := by
  unfold State.blockWeigh; (repeat' split) <;> simp
@[simp] theorem State.blockWeigh_trucks : (s.blockWeigh).trucks = s.trucks := by
  unfold State.blockWeigh; (repeat' split) <;> simp
@[simp] theorem State.blockWeigh_tally : (s.blockWeigh).tally = s.tally := by
  unfold State.blockWeigh; (repeat' split) <;> simp
@[simp] theorem State.blockWeigh_roster : (s.blockWeigh).roster = s.roster := by
  unfold State.blockWeigh; (repeat' split) <;> simp
@[simp] theorem State.blockWeigh_channel : (s.blockWeigh).channel = s.channel := by
  unfold State.blockWeigh; (repeat' split) <;> simp
@[simp] theorem State.blockWeigh_link : (s.blockWeigh).link = s.link := by
  unfold State.blockWeigh; (repeat' split) <;> simp
@[simp] theorem State.blockWeigh_free : (s.blockWeigh).free = s.free := by
  unfold State.blockWeigh; (repeat' split) <;> simp

/-! ### State.unblockWeigh -/

@[simp] theorem State.unblockWeigh_pending : (s.unblockWeigh).pending = s.pending := by
  unfold State.unblockWeigh; (repeat' split) <;> simp
@[simp] theorem State.unblockWeigh_pins : (s.unblockWeigh).pins = s.pins := by
  unfold State.unblockWeigh; (repeat' split) <;> simp
@[simp] theorem State.unblockWeigh_station : (s.unblockWeigh).station = s.station := by
  unfold State.unblockWeigh; (repeat' split) <;> simp
@[simp] theorem State.unblockWeigh_partTime : (s.unblockWeigh).partTime = s.partTime := by
  unfold State.unblockWeigh; (repeat' split) <;> simp
@[simp] theorem State.unblockWeigh_subTime : (s.unblockWeigh).subTime = s.subTime := by
  unfold State.unblockWeigh; (repeat' split) <;> simp
@[simp] theorem State.unblockWeigh_startup : (s.unblockWeigh).startup = s.startup := by
  unfold State.unblockWeigh; (repeat' split) <;> simp
@[simp] theorem State.unblockWeigh_settings : (s.unblockWeigh).settings = s.settings := by
  unfold State.unblockWeigh; (repeat' split) <;> simp
@[simp] theorem State.unblockWeigh_scan : (s.unblockWeigh).scan = s.scan := by
  unfold State.unblockWeigh; (repeat' split) <;> simp
@[simp] theorem State.unblockWeigh_cycle : (s.unblockWeigh).cycle = s.cycle := by
  unfold State.unblockWeigh; (repeat' split) <;> simp
@[simp] theorem State.unblockWeigh_trucks : (s.unblockWeigh).trucks = s.trucks := by
  unfold State.unblockWeigh; (repeat' split) <;> simp
@[simp] theorem State.unblockWeigh_tally : (s.unblockWeigh).tally = s.tally := by
  unfold State.unblockWeigh; (repeat' split) <;> simp
@[simp] theorem State.unblockWeigh_roster : (s.unblockWeigh).roster = s.roster := by
  unfold State.unblockWeigh; (repeat' split) <;> simp
@[simp] theorem State.unblockWeigh_channel : (s.unblockWeigh).channel = s.channel := by
  unfold State.unblockWeigh; (repeat' split) <;> simp
@[simp] theorem State.unblockWeigh_link : (s.unblockWeigh).link = s.link := by
  unfold State.unblockWeigh; (repeat' split) <;> simp
@[simp] theorem State.unblockWeigh_panel : (s.unblockWeigh).panel = s.panel := by
  unfold State.unblockWeigh; (repeat' split) <;> simp
@[simp] theorem State.unblockWeigh_free : (s.unblockWeigh).free = s.free := by
  unfold State.unblockWeigh; (repeat' split) <;> simp

/-! ### State.takeFaultChange -/

@[simp] theorem State.takeFaultChange_pending (b : Bool) : (s.takeFaultChange b).pending = s.pending := by
  unfold State.takeFaultChange; (repeat' split) <;> simp
@[simp] theorem State.takeFaultChange_pins (b : Bool) : (s.takeFaultChange b).pins = s.pins := by
  unfold State.takeFaultChange; (repeat' split) <;> simp
@[simp] theorem State.takeFaultChange_station (b : Bool) : (s.takeFaultChange b).station = s.station := by
  unfold State.takeFaultChange; (repeat' split) <;> simp
@[simp] theorem State.takeFaultChange_partTime (b : Bool) : (s.takeFaultChange b).partTime = s.partTime := by
  unfold State.takeFaultChange; (repeat' split) <;> simp
@[simp] theorem State.takeFaultChange_subTime (b : Bool) : (s.takeFaultChange b).subTime = s.subTime := by
  unfold State.takeFaultChange; (repeat' split) <;> simp
@[simp] theorem State.takeFaultChange_startup (b : Bool) : (s.takeFaultChange b).startup = s.startup := by
  unfold State.takeFaultChange; (repeat' split) <;> simp
@[simp] theorem State.takeFaultChange_settings (b : Bool) : (s.takeFaultChange b).settings = s.settings := by
  unfold State.takeFaultChange; (repeat' split) <;> simp
@[simp] theorem State.takeFaultChange_scan (b : Bool) : (s.takeFaultChange b).scan = s.scan := by
  unfold State.takeFaultChange; (repeat' split) <;> simp
@[simp] theorem State.takeFaultChange_cycle (b : Bool) : (s.takeFaultChange b).cycle = s.cycle := by
  unfold State.takeFaultChange; (repeat' split) <;> simp
@[simp] theorem State.takeFaultChange_trucks (b : Bool) : (s.takeFaultChange b).trucks = s.trucks := by
  unfold State.takeFaultChange; (repeat' split) <;> simp
@[simp] theorem State.takeFaultChange_tally (b : Bool) : (s.takeFaultChange b).tally = s.tally := by
  unfold State.takeFaultChange; (repeat' split) <;> simp
@[simp] theorem State.takeFaultChange_roster (b : Bool) : (s.takeFaultChange b).roster = s.roster := by
  unfold State.takeFaultChange; (repeat' split) <;> simp
@[simp] theorem State.takeFaultChange_channel (b : Bool) : (s.takeFaultChange b).channel = s.channel := by
  unfold State.takeFaultChange; (repeat' split) <;> simp
@[simp] theorem State.takeFaultChange_link (b : Bool) : (s.takeFaultChange b).link = s.link := by
  unfold State.takeFaultChange; (repeat' split) <;> simp
@[simp] theorem State.takeFaultChange_free (b : Bool) : (s.takeFaultChange b).free = s.free := by
  unfold State.takeFaultChange; (repeat' split) <;> simp

/-! ### State.pressZero -/

@[simp] theorem State.pressZero_pending : (s.pressZero).pending = s.pending := by
  unfold State.pressZero; (try dsimp only); (repeat' split) <;> simp
@[simp] theorem State.pressZero_pins : (s.pressZero).pins = s.pins := by
  unfold State.pressZero; (try dsimp only); (repeat' split) <;> simp
@[simp] theorem State.pressZero_station : (s.pressZero).station = s.station := by
  unfold State.pressZero; (try dsimp only); (repeat' split) <;> simp
@[simp] theorem State.pressZero_partTime : (s.pressZero).partTime = s.partTime := by
  unfold State.pressZero; (try dsimp only); (repeat' split) <;> simp
@[simp] theorem State.pressZero_subTime : (s.pressZero).subTime = s.subTime := by
  unfold State.pressZero; (try dsimp only); (repeat' split) <;> simp
@[simp] theorem State.pressZero_startup : (s.pressZero).startup = s.startup := by
  unfold State.pressZero; (try dsimp only); (repeat' split) <;> simp
@[simp] theorem State.pressZero_settings : (s.pressZero).settings = s.settings := by
  unfold State.pressZero; (try dsimp only); (repeat' split) <;> simp
@[simp] theorem State.pressZero_scan : (s.pressZero).scan = s.scan := by
  unfold State.pressZero; (try dsimp only); (repeat' split) <;> simp
@[simp] theorem State.pressZero_cycle : (s.pressZero).cycle = s.cycle := by
  unfold State.pressZero; (try dsimp only); (repeat' split) <;> simp
@[simp] theorem State.pressZero_trucks : (s.pressZero).trucks = s.trucks := by
  unfold State.pressZero; (try dsimp only); (repeat' split) <;> simp
@[simp] theorem State.pressZero_tally : (s.pressZero).tally = s.tally := by
  unfold State.pressZero; (try dsimp only); (repeat' split) <;> simp
@[simp] theorem State.pressZero_roster : (s.pressZero).roster = s.roster := by
  unfold State.pressZero; (try dsimp only); (repeat' split) <;> simp
@[simp] theorem State.pressZero_channel : (s.pressZero).channel = s.channel := by
  unfold State.pressZero; (try dsimp only); (repeat' split) <;> simp
@[simp] theorem State.pressZero_link : (s.pressZero).link = s.link := by
  unfold State.pressZero; (try dsimp only); (repeat' split) <;> simp
@[simp] theorem State.pressZero_free : (s.pressZero).free = s.free := by
  unfold State.pressZero; (try dsimp only); (repeat' split) <;> simp

/-! ### State.raiseUnweighed -/

@[simp] theorem State.raiseUnweighed_pending (m : Option Nat) : (s.raiseUnweighed m).pending = s.pending := by
  unfold State.raiseUnweighed; (repeat' split) <;> simp
@[simp] theorem State.raiseUnweighed_pins (m : Option Nat) : (s.raiseUnweighed m).pins = s.pins := by
  unfold State.raiseUnweighed; (repeat' split) <;> simp
@[simp] theorem State.raiseUnweighed_station (m : Option Nat) : (s.raiseUnweighed m).station = s.station := by
  unfold State.raiseUnweighed; (repeat' split) <;> simp
@[simp] theorem State.raiseUnweighed_partTime (m : Option Nat) : (s.raiseUnweighed m).partTime = s.partTime := by
  unfold State.raiseUnweighed; (repeat' split) <;> simp
@[simp] theorem State.raiseUnweighed_subTime (m : Option Nat) : (s.raiseUnweighed m).subTime = s.subTime := by
  unfold State.raiseUnweighed; (repeat' split) <;> simp
@[simp] theorem State.raiseUnweighed_startup (m : Option Nat) : (s.raiseUnweighed m).startup = s.startup := by
  unfold State.raiseUnweighed; (repeat' split) <;> simp
@[simp] theorem State.raiseUnweighed_settings (m : Option Nat) : (s.raiseUnweighed m).settings = s.settings := by
  unfold State.raiseUnweighed; (repeat' split) <;> simp
@[simp] theorem State.raiseUnweighed_scan (m : Option Nat) : (s.raiseUnweighed m).scan = s.scan := by
  unfold State.raiseUnweighed; (repeat' split) <;> simp
@[simp] theorem State.raiseUnweighed_cycle (m : Option Nat) : (s.raiseUnweighed m).cycle = s.cycle := by
  unfold State.raiseUnweighed; (repeat' split) <;> simp
@[simp] theorem State.raiseUnweighed_weigh (m : Option Nat) : (s.raiseUnweighed m).weigh = s.weigh := by
  unfold State.raiseUnweighed; (repeat' split) <;> simp
@[simp] theorem State.raiseUnweighed_trucks (m : Option Nat) : (s.raiseUnweighed m).trucks = s.trucks := by
  unfold State.raiseUnweighed; (repeat' split) <;> simp
@[simp] theorem State.raiseUnweighed_tally (m : Option Nat) : (s.raiseUnweighed m).tally = s.tally := by
  unfold State.raiseUnweighed; (repeat' split) <;> simp
@[simp] theorem State.raiseUnweighed_roster (m : Option Nat) : (s.raiseUnweighed m).roster = s.roster := by
  unfold State.raiseUnweighed; (repeat' split) <;> simp
@[simp] theorem State.raiseUnweighed_channel (m : Option Nat) : (s.raiseUnweighed m).channel = s.channel := by
  unfold State.raiseUnweighed; (repeat' split) <;> simp
@[simp] theorem State.raiseUnweighed_link (m : Option Nat) : (s.raiseUnweighed m).link = s.link := by
  unfold State.raiseUnweighed; (repeat' split) <;> simp
@[simp] theorem State.raiseUnweighed_free (m : Option Nat) : (s.raiseUnweighed m).free = s.free := by
  unfold State.raiseUnweighed; (repeat' split) <;> simp

/-! ### State.dump -/

@[simp] theorem State.dump_pending : (s.dump).pending = s.pending := by simp [State.dump]
@[simp] theorem State.dump_pins : (s.dump).pins = s.pins := by simp [State.dump]
@[simp] theorem State.dump_station : (s.dump).station = s.station := by simp [State.dump]
@[simp] theorem State.dump_partTime : (s.dump).partTime = s.partTime := by simp [State.dump]
@[simp] theorem State.dump_subTime : (s.dump).subTime = s.subTime := by simp [State.dump]
@[simp] theorem State.dump_startup : (s.dump).startup = s.startup := by simp [State.dump]
@[simp] theorem State.dump_settings : (s.dump).settings = s.settings := by simp [State.dump]
@[simp] theorem State.dump_scan : (s.dump).scan = s.scan := by simp [State.dump]
@[simp] theorem State.dump_trucks : (s.dump).trucks = s.trucks := by simp [State.dump]
@[simp] theorem State.dump_roster : (s.dump).roster = s.roster := by simp [State.dump]
@[simp] theorem State.dump_link : (s.dump).link = s.link := by simp [State.dump]
@[simp] theorem State.dump_free : (s.dump).free = s.free := by simp [State.dump]

/-! ### State.endDump -/

@[simp] theorem State.endDump_pending : (s.endDump).pending = s.pending := by
  unfold State.endDump; (try dsimp only); (repeat' split) <;> simp
@[simp] theorem State.endDump_pins : (s.endDump).pins = s.pins := by
  unfold State.endDump; (try dsimp only); (repeat' split) <;> simp
@[simp] theorem State.endDump_station : (s.endDump).station = s.station := by
  unfold State.endDump; (try dsimp only); (repeat' split) <;> simp
@[simp] theorem State.endDump_partTime : (s.endDump).partTime = s.partTime := by
  unfold State.endDump; (try dsimp only); (repeat' split) <;> simp
@[simp] theorem State.endDump_subTime : (s.endDump).subTime = s.subTime := by
  unfold State.endDump; (try dsimp only); (repeat' split) <;> simp
@[simp] theorem State.endDump_startup : (s.endDump).startup = s.startup := by
  unfold State.endDump; (try dsimp only); (repeat' split) <;> simp
@[simp] theorem State.endDump_settings : (s.endDump).settings = s.settings := by
  unfold State.endDump; (try dsimp only); (repeat' split) <;> simp
@[simp] theorem State.endDump_scan : (s.endDump).scan = s.scan := by
  unfold State.endDump; (try dsimp only); (repeat' split) <;> simp
@[simp] theorem State.endDump_weigh : (s.endDump).weigh = s.weigh := by
  unfold State.endDump; (try dsimp only); (repeat' split) <;> simp
@[simp] theorem State.endDump_trucks : (s.endDump).trucks = s.trucks := by
  unfold State.endDump; (try dsimp only); (repeat' split) <;> simp
@[simp] theorem State.endDump_tally : (s.endDump).tally = s.tally := by
  unfold State.endDump; (try dsimp only); (repeat' split) <;> simp
@[simp] theorem State.endDump_roster : (s.endDump).roster = s.roster := by
  unfold State.endDump; (try dsimp only); (repeat' split) <;> simp
@[simp] theorem State.endDump_channel : (s.endDump).channel = s.channel := by
  unfold State.endDump; (try dsimp only); (repeat' split) <;> simp
@[simp] theorem State.endDump_link : (s.endDump).link = s.link := by
  unfold State.endDump; (try dsimp only); (repeat' split) <;> simp
@[simp] theorem State.endDump_free : (s.endDump).free = s.free := by
  unfold State.endDump; (try dsimp only); (repeat' split) <;> simp
@[simp] theorem State.endDump_panel : (s.endDump).panel = s.panel := by
  unfold State.endDump; (try dsimp only); (repeat' split) <;> simp

/-! ### State.abandonCycle -/

@[simp] theorem State.abandonCycle_pending : (s.abandonCycle).pending = s.pending := by simp [State.abandonCycle]
@[simp] theorem State.abandonCycle_pins : (s.abandonCycle).pins = s.pins := by simp [State.abandonCycle]
@[simp] theorem State.abandonCycle_station : (s.abandonCycle).station = s.station := by simp [State.abandonCycle]
@[simp] theorem State.abandonCycle_partTime : (s.abandonCycle).partTime = s.partTime := by simp [State.abandonCycle]
@[simp] theorem State.abandonCycle_subTime : (s.abandonCycle).subTime = s.subTime := by simp [State.abandonCycle]
@[simp] theorem State.abandonCycle_startup : (s.abandonCycle).startup = s.startup := by simp [State.abandonCycle]
@[simp] theorem State.abandonCycle_settings : (s.abandonCycle).settings = s.settings := by simp [State.abandonCycle]
@[simp] theorem State.abandonCycle_scan : (s.abandonCycle).scan = s.scan := by simp [State.abandonCycle]
@[simp] theorem State.abandonCycle_trucks : (s.abandonCycle).trucks = s.trucks := by simp [State.abandonCycle]
@[simp] theorem State.abandonCycle_tally : (s.abandonCycle).tally = s.tally := by simp [State.abandonCycle]
@[simp] theorem State.abandonCycle_roster : (s.abandonCycle).roster = s.roster := by simp [State.abandonCycle]
@[simp] theorem State.abandonCycle_channel : (s.abandonCycle).channel = s.channel := by simp [State.abandonCycle]
@[simp] theorem State.abandonCycle_link : (s.abandonCycle).link = s.link := by simp [State.abandonCycle]
@[simp] theorem State.abandonCycle_free : (s.abandonCycle).free = s.free := by simp [State.abandonCycle]
@[simp] theorem State.abandonCycle_panel_alerts : (s.abandonCycle).panel.alerts = s.panel.alerts := by
  simp [State.abandonCycle]

/-! ### State.move -/

@[simp] theorem State.move_pending (m : Move) : (s.move m).pending = s.pending := by cases m <;> simp [State.move]
@[simp] theorem State.move_pins (m : Move) : (s.move m).pins = s.pins := by cases m <;> simp [State.move]
@[simp] theorem State.move_station (m : Move) : (s.move m).station = s.station := by cases m <;> simp [State.move]
@[simp] theorem State.move_partTime (m : Move) : (s.move m).partTime = s.partTime := by cases m <;> simp [State.move]
@[simp] theorem State.move_subTime (m : Move) : (s.move m).subTime = s.subTime := by cases m <;> simp [State.move]
@[simp] theorem State.move_startup (m : Move) : (s.move m).startup = s.startup := by cases m <;> simp [State.move]
@[simp] theorem State.move_settings (m : Move) : (s.move m).settings = s.settings := by cases m <;> simp [State.move]
@[simp] theorem State.move_scan (m : Move) : (s.move m).scan = s.scan := by cases m <;> simp [State.move]
@[simp] theorem State.move_trucks (m : Move) : (s.move m).trucks = s.trucks := by cases m <;> simp [State.move]
@[simp] theorem State.move_roster (m : Move) : (s.move m).roster = s.roster := by cases m <;> simp [State.move]
@[simp] theorem State.move_link (m : Move) : (s.move m).link = s.link := by cases m <;> simp [State.move]
@[simp] theorem State.move_free (m : Move) : (s.move m).free = s.free := by cases m <;> simp [State.move]

/-! ### State.cycleScan -/

@[simp] theorem State.cycleScan_pending (c : Scan) : (s.cycleScan c).pending = s.pending := by
  unfold State.cycleScan; (repeat' split) <;> simp
@[simp] theorem State.cycleScan_pins (c : Scan) : (s.cycleScan c).pins = s.pins := by
  unfold State.cycleScan; (repeat' split) <;> simp
@[simp] theorem State.cycleScan_station (c : Scan) : (s.cycleScan c).station = s.station := by
  unfold State.cycleScan; (repeat' split) <;> simp
@[simp] theorem State.cycleScan_partTime (c : Scan) : (s.cycleScan c).partTime = s.partTime := by
  unfold State.cycleScan; (repeat' split) <;> simp
@[simp] theorem State.cycleScan_subTime (c : Scan) : (s.cycleScan c).subTime = s.subTime := by
  unfold State.cycleScan; (repeat' split) <;> simp
@[simp] theorem State.cycleScan_startup (c : Scan) : (s.cycleScan c).startup = s.startup := by
  unfold State.cycleScan; (repeat' split) <;> simp
@[simp] theorem State.cycleScan_settings (c : Scan) : (s.cycleScan c).settings = s.settings := by
  unfold State.cycleScan; (repeat' split) <;> simp
@[simp] theorem State.cycleScan_scan (c : Scan) : (s.cycleScan c).scan = s.scan := by
  unfold State.cycleScan; (repeat' split) <;> simp
@[simp] theorem State.cycleScan_trucks (c : Scan) : (s.cycleScan c).trucks = s.trucks := by
  unfold State.cycleScan; (repeat' split) <;> simp
@[simp] theorem State.cycleScan_roster (c : Scan) : (s.cycleScan c).roster = s.roster := by
  unfold State.cycleScan; (repeat' split) <;> simp
@[simp] theorem State.cycleScan_link (c : Scan) : (s.cycleScan c).link = s.link := by
  unfold State.cycleScan; (repeat' split) <;> simp
@[simp] theorem State.cycleScan_free (c : Scan) : (s.cycleScan c).free = s.free := by
  unfold State.cycleScan; (repeat' split) <;> simp

/-! ### State.handOn -/

@[simp] theorem State.handOn_pending (c : Scan) : (s.handOn c).pending = s.pending := by simp [State.handOn]
@[simp] theorem State.handOn_pins (c : Scan) : (s.handOn c).pins = s.pins := by simp [State.handOn]
@[simp] theorem State.handOn_station (c : Scan) : (s.handOn c).station = s.station := by simp [State.handOn]
@[simp] theorem State.handOn_partTime (c : Scan) : (s.handOn c).partTime = s.partTime := by simp [State.handOn]
@[simp] theorem State.handOn_subTime (c : Scan) : (s.handOn c).subTime = s.subTime := by simp [State.handOn]
@[simp] theorem State.handOn_startup (c : Scan) : (s.handOn c).startup = s.startup := by simp [State.handOn]
@[simp] theorem State.handOn_settings (c : Scan) : (s.handOn c).settings = s.settings := by simp [State.handOn]
@[simp] theorem State.handOn_trucks (c : Scan) : (s.handOn c).trucks = s.trucks := by simp [State.handOn]
@[simp] theorem State.handOn_roster (c : Scan) : (s.handOn c).roster = s.roster := by simp [State.handOn]
@[simp] theorem State.handOn_link (c : Scan) : (s.handOn c).link = s.link := by simp [State.handOn]
@[simp] theorem State.handOn_free (c : Scan) : (s.handOn c).free = s.free := by simp [State.handOn]

/-! ### State.pressVoid -/

@[simp] theorem State.pressVoid_pending : (s.pressVoid).pending = s.pending := by
  unfold State.pressVoid; split
  · rfl
  · rename_i p _
    split
    · have h := s.voidClaim_pending p.mass p.load
      split
      · rfl
      · rename_i heq; rw [heq] at h; simpa using h
    · rfl
@[simp] theorem State.pressVoid_pins : (s.pressVoid).pins = s.pins := by
  unfold State.pressVoid; split
  · rfl
  · rename_i p _
    split
    · have h := s.voidClaim_pins p.mass p.load
      split
      · rfl
      · rename_i heq; rw [heq] at h; simpa using h
    · rfl
@[simp] theorem State.pressVoid_station : (s.pressVoid).station = s.station := by
  unfold State.pressVoid; split
  · rfl
  · rename_i p _
    split
    · have h := s.voidClaim_station p.mass p.load
      split
      · rfl
      · rename_i heq; rw [heq] at h; simpa using h
    · rfl
@[simp] theorem State.pressVoid_partTime : (s.pressVoid).partTime = s.partTime := by
  unfold State.pressVoid; split
  · rfl
  · rename_i p _
    split
    · have h := s.voidClaim_partTime p.mass p.load
      split
      · rfl
      · rename_i heq; rw [heq] at h; simpa using h
    · rfl
@[simp] theorem State.pressVoid_subTime : (s.pressVoid).subTime = s.subTime := by
  unfold State.pressVoid; split
  · rfl
  · rename_i p _
    split
    · have h := s.voidClaim_subTime p.mass p.load
      split
      · rfl
      · rename_i heq; rw [heq] at h; simpa using h
    · rfl
@[simp] theorem State.pressVoid_startup : (s.pressVoid).startup = s.startup := by
  unfold State.pressVoid; split
  · rfl
  · rename_i p _
    split
    · have h := s.voidClaim_startup p.mass p.load
      split
      · rfl
      · rename_i heq; rw [heq] at h; simpa using h
    · rfl
@[simp] theorem State.pressVoid_settings : (s.pressVoid).settings = s.settings := by
  unfold State.pressVoid; split
  · rfl
  · rename_i p _
    split
    · have h := s.voidClaim_settings p.mass p.load
      split
      · rfl
      · rename_i heq; rw [heq] at h; simpa using h
    · rfl
@[simp] theorem State.pressVoid_scan : (s.pressVoid).scan = s.scan := by
  unfold State.pressVoid; split
  · rfl
  · rename_i p _
    split
    · have h := s.voidClaim_scan p.mass p.load
      split
      · rfl
      · rename_i heq; rw [heq] at h; simpa using h
    · rfl
@[simp] theorem State.pressVoid_weigh : (s.pressVoid).weigh = s.weigh := by
  unfold State.pressVoid; split
  · rfl
  · rename_i p _
    split
    · have h := s.voidClaim_weigh p.mass p.load
      split
      · rfl
      · rename_i heq; rw [heq] at h; simpa using h
    · rfl
@[simp] theorem State.pressVoid_trucks : (s.pressVoid).trucks = s.trucks := by
  unfold State.pressVoid; split
  · rfl
  · rename_i p _
    split
    · have h := s.voidClaim_trucks p.mass p.load
      split
      · rfl
      · rename_i heq; rw [heq] at h; simpa using h
    · rfl
@[simp] theorem State.pressVoid_roster : (s.pressVoid).roster = s.roster := by
  unfold State.pressVoid; split
  · rfl
  · rename_i p _
    split
    · have h := s.voidClaim_roster p.mass p.load
      split
      · rfl
      · rename_i heq; rw [heq] at h; simpa using h
    · rfl
@[simp] theorem State.pressVoid_link : (s.pressVoid).link = s.link := by
  unfold State.pressVoid; split
  · rfl
  · rename_i p _
    split
    · have h := s.voidClaim_link p.mass p.load
      split
      · rfl
      · rename_i heq; rw [heq] at h; simpa using h
    · rfl
@[simp] theorem State.pressVoid_free : (s.pressVoid).free = s.free := by
  unfold State.pressVoid; split
  · rfl
  · rename_i p _
    split
    · have h := s.voidClaim_free p.mass p.load
      split
      · rfl
      · rename_i heq; rw [heq] at h; simpa using h
    · rfl

/-! ### State.reportStall -/

@[simp] theorem State.reportStall_pending : (s.reportStall).pending = s.pending := by
  unfold State.reportStall; (try dsimp only); (repeat' split) <;> simp
@[simp] theorem State.reportStall_pins : (s.reportStall).pins = s.pins := by
  unfold State.reportStall; (try dsimp only); (repeat' split) <;> simp
@[simp] theorem State.reportStall_station : (s.reportStall).station = s.station := by
  unfold State.reportStall; (try dsimp only); (repeat' split) <;> simp
@[simp] theorem State.reportStall_partTime : (s.reportStall).partTime = s.partTime := by
  unfold State.reportStall; (try dsimp only); (repeat' split) <;> simp
@[simp] theorem State.reportStall_subTime : (s.reportStall).subTime = s.subTime := by
  unfold State.reportStall; (try dsimp only); (repeat' split) <;> simp
@[simp] theorem State.reportStall_startup : (s.reportStall).startup = s.startup := by
  unfold State.reportStall; (try dsimp only); (repeat' split) <;> simp
@[simp] theorem State.reportStall_settings : (s.reportStall).settings = s.settings := by
  unfold State.reportStall; (try dsimp only); (repeat' split) <;> simp
@[simp] theorem State.reportStall_scan : (s.reportStall).scan = s.scan := by
  unfold State.reportStall; (try dsimp only); (repeat' split) <;> simp
@[simp] theorem State.reportStall_cycle : (s.reportStall).cycle = s.cycle := by
  unfold State.reportStall; (try dsimp only); (repeat' split) <;> simp
@[simp] theorem State.reportStall_weigh : (s.reportStall).weigh = s.weigh := by
  unfold State.reportStall; (try dsimp only); (repeat' split) <;> simp
@[simp] theorem State.reportStall_trucks : (s.reportStall).trucks = s.trucks := by
  unfold State.reportStall; (try dsimp only); (repeat' split) <;> simp
@[simp] theorem State.reportStall_tally : (s.reportStall).tally = s.tally := by
  unfold State.reportStall; (try dsimp only); (repeat' split) <;> simp
@[simp] theorem State.reportStall_roster : (s.reportStall).roster = s.roster := by
  unfold State.reportStall; (try dsimp only); (repeat' split) <;> simp
@[simp] theorem State.reportStall_free : (s.reportStall).free = s.free := by
  unfold State.reportStall; (try dsimp only); (repeat' split) <;> simp

/-! ### State.endStall -/

@[simp] theorem State.endStall_pending : (s.endStall).pending = s.pending := by
  unfold State.endStall; (try dsimp only); (repeat' split) <;> simp
@[simp] theorem State.endStall_pins : (s.endStall).pins = s.pins := by
  unfold State.endStall; (try dsimp only); (repeat' split) <;> simp
@[simp] theorem State.endStall_station : (s.endStall).station = s.station := by
  unfold State.endStall; (try dsimp only); (repeat' split) <;> simp
@[simp] theorem State.endStall_partTime : (s.endStall).partTime = s.partTime := by
  unfold State.endStall; (try dsimp only); (repeat' split) <;> simp
@[simp] theorem State.endStall_subTime : (s.endStall).subTime = s.subTime := by
  unfold State.endStall; (try dsimp only); (repeat' split) <;> simp
@[simp] theorem State.endStall_startup : (s.endStall).startup = s.startup := by
  unfold State.endStall; (try dsimp only); (repeat' split) <;> simp
@[simp] theorem State.endStall_settings : (s.endStall).settings = s.settings := by
  unfold State.endStall; (try dsimp only); (repeat' split) <;> simp
@[simp] theorem State.endStall_scan : (s.endStall).scan = s.scan := by
  unfold State.endStall; (try dsimp only); (repeat' split) <;> simp
@[simp] theorem State.endStall_cycle : (s.endStall).cycle = s.cycle := by
  unfold State.endStall; (try dsimp only); (repeat' split) <;> simp
@[simp] theorem State.endStall_weigh : (s.endStall).weigh = s.weigh := by
  unfold State.endStall; (try dsimp only); (repeat' split) <;> simp
@[simp] theorem State.endStall_trucks : (s.endStall).trucks = s.trucks := by
  unfold State.endStall; (try dsimp only); (repeat' split) <;> simp
@[simp] theorem State.endStall_tally : (s.endStall).tally = s.tally := by
  unfold State.endStall; (try dsimp only); (repeat' split) <;> simp
@[simp] theorem State.endStall_roster : (s.endStall).roster = s.roster := by
  unfold State.endStall; (try dsimp only); (repeat' split) <;> simp
@[simp] theorem State.endStall_free : (s.endStall).free = s.free := by
  unfold State.endStall; (try dsimp only); (repeat' split) <;> simp

/-! ### State.enterSelfTest -/

@[simp] theorem State.enterSelfTest_pending : (s.enterSelfTest).pending = s.pending := by simp [State.enterSelfTest]
@[simp] theorem State.enterSelfTest_pins : (s.enterSelfTest).pins = s.pins := by simp [State.enterSelfTest]
@[simp] theorem State.enterSelfTest_partTime : (s.enterSelfTest).partTime = s.partTime := by simp [State.enterSelfTest]
@[simp] theorem State.enterSelfTest_subTime : (s.enterSelfTest).subTime = s.subTime := by simp [State.enterSelfTest]
@[simp] theorem State.enterSelfTest_settings : (s.enterSelfTest).settings = s.settings := by simp [State.enterSelfTest]
@[simp] theorem State.enterSelfTest_scan : (s.enterSelfTest).scan = s.scan := by simp [State.enterSelfTest]
@[simp] theorem State.enterSelfTest_cycle : (s.enterSelfTest).cycle = s.cycle := by simp [State.enterSelfTest]
@[simp] theorem State.enterSelfTest_weigh : (s.enterSelfTest).weigh = s.weigh := by simp [State.enterSelfTest]
@[simp] theorem State.enterSelfTest_trucks : (s.enterSelfTest).trucks = s.trucks := by simp [State.enterSelfTest]
@[simp] theorem State.enterSelfTest_tally : (s.enterSelfTest).tally = s.tally := by simp [State.enterSelfTest]
@[simp] theorem State.enterSelfTest_roster : (s.enterSelfTest).roster = s.roster := by simp [State.enterSelfTest]
@[simp] theorem State.enterSelfTest_channel : (s.enterSelfTest).channel = s.channel := by simp [State.enterSelfTest]
@[simp] theorem State.enterSelfTest_panel : (s.enterSelfTest).panel = s.panel := by simp [State.enterSelfTest]
@[simp] theorem State.enterSelfTest_free : (s.enterSelfTest).free = s.free := by simp [State.enterSelfTest]

/-! ### State.enterListen -/

@[simp] theorem State.enterListen_pending : (s.enterListen).pending = s.pending := by
  unfold State.enterListen; dsimp only; split <;> simp
@[simp] theorem State.enterListen_pins : (s.enterListen).pins = s.pins := by
  unfold State.enterListen; dsimp only; split <;> simp
@[simp] theorem State.enterListen_partTime : (s.enterListen).partTime = s.partTime := by
  unfold State.enterListen; dsimp only; split <;> simp
@[simp] theorem State.enterListen_subTime : (s.enterListen).subTime = s.subTime := by
  unfold State.enterListen; dsimp only; split <;> simp
@[simp] theorem State.enterListen_settings : (s.enterListen).settings = s.settings := by
  unfold State.enterListen; dsimp only; split <;> simp
@[simp] theorem State.enterListen_cycle : (s.enterListen).cycle = s.cycle := by
  unfold State.enterListen; dsimp only; split <;> simp
@[simp] theorem State.enterListen_weigh : (s.enterListen).weigh = s.weigh := by
  unfold State.enterListen; dsimp only; split <;> simp
@[simp] theorem State.enterListen_trucks : (s.enterListen).trucks = s.trucks := by
  unfold State.enterListen; dsimp only; split <;> simp
@[simp] theorem State.enterListen_tally : (s.enterListen).tally = s.tally := by
  unfold State.enterListen; dsimp only; split <;> simp
@[simp] theorem State.enterListen_roster : (s.enterListen).roster = s.roster := by
  unfold State.enterListen; dsimp only; split <;> simp
@[simp] theorem State.enterListen_panel : (s.enterListen).panel = s.panel := by
  unfold State.enterListen; dsimp only; split <;> simp
@[simp] theorem State.enterListen_free : (s.enterListen).free = s.free := by
  unfold State.enterListen; dsimp only; split <;> simp

/-! ### State.enterActive -/

@[simp] theorem State.enterActive_pending : (s.enterActive).pending = s.pending := by simp [State.enterActive]
@[simp] theorem State.enterActive_pins : (s.enterActive).pins = s.pins := by simp [State.enterActive]
@[simp] theorem State.enterActive_partTime : (s.enterActive).partTime = s.partTime := by simp [State.enterActive]
@[simp] theorem State.enterActive_subTime : (s.enterActive).subTime = s.subTime := by simp [State.enterActive]
@[simp] theorem State.enterActive_settings : (s.enterActive).settings = s.settings := by simp [State.enterActive]
@[simp] theorem State.enterActive_scan : (s.enterActive).scan = s.scan := by simp [State.enterActive]
@[simp] theorem State.enterActive_cycle : (s.enterActive).cycle = s.cycle := by simp [State.enterActive]
@[simp] theorem State.enterActive_weigh : (s.enterActive).weigh = s.weigh := by simp [State.enterActive]
@[simp] theorem State.enterActive_trucks : (s.enterActive).trucks = s.trucks := by simp [State.enterActive]
@[simp] theorem State.enterActive_tally : (s.enterActive).tally = s.tally := by simp [State.enterActive]
@[simp] theorem State.enterActive_roster : (s.enterActive).roster = s.roster := by simp [State.enterActive]
@[simp] theorem State.enterActive_link : (s.enterActive).link = s.link := by simp [State.enterActive]
@[simp] theorem State.enterActive_panel : (s.enterActive).panel = s.panel := by simp [State.enterActive]
@[simp] theorem State.enterActive_free : (s.enterActive).free = s.free := by simp [State.enterActive]

/-! ### State.takeConflict -/

@[simp] theorem State.takeConflict_pending : (s.takeConflict).pending = s.pending := by
  unfold State.takeConflict; (try dsimp only); (repeat' split) <;> simp
@[simp] theorem State.takeConflict_pins : (s.takeConflict).pins = s.pins := by
  unfold State.takeConflict; (try dsimp only); (repeat' split) <;> simp
@[simp] theorem State.takeConflict_partTime : (s.takeConflict).partTime = s.partTime := by
  unfold State.takeConflict; (try dsimp only); (repeat' split) <;> simp
@[simp] theorem State.takeConflict_subTime : (s.takeConflict).subTime = s.subTime := by
  unfold State.takeConflict; (try dsimp only); (repeat' split) <;> simp
@[simp] theorem State.takeConflict_settings : (s.takeConflict).settings = s.settings := by
  unfold State.takeConflict; (try dsimp only); (repeat' split) <;> simp
@[simp] theorem State.takeConflict_scan : (s.takeConflict).scan = s.scan := by
  unfold State.takeConflict; (try dsimp only); (repeat' split) <;> simp
@[simp] theorem State.takeConflict_cycle : (s.takeConflict).cycle = s.cycle := by
  unfold State.takeConflict; (try dsimp only); (repeat' split) <;> simp
@[simp] theorem State.takeConflict_weigh : (s.takeConflict).weigh = s.weigh := by
  unfold State.takeConflict; (try dsimp only); (repeat' split) <;> simp
@[simp] theorem State.takeConflict_trucks : (s.takeConflict).trucks = s.trucks := by
  unfold State.takeConflict; (try dsimp only); (repeat' split) <;> simp
@[simp] theorem State.takeConflict_tally : (s.takeConflict).tally = s.tally := by
  unfold State.takeConflict; (try dsimp only); (repeat' split) <;> simp
@[simp] theorem State.takeConflict_roster : (s.takeConflict).roster = s.roster := by
  unfold State.takeConflict; (try dsimp only); (repeat' split) <;> simp
@[simp] theorem State.takeConflict_link : (s.takeConflict).link = s.link := by
  unfold State.takeConflict; (try dsimp only); (repeat' split) <;> simp
@[simp] theorem State.takeConflict_free : (s.takeConflict).free = s.free := by
  unfold State.takeConflict; (try dsimp only); (repeat' split) <;> simp

/-! ### State.dispatch -/

@[simp] theorem State.dispatch_pending (f : List Byte) : (s.dispatch f).pending = s.pending := by
  unfold State.dispatch; (repeat' split) <;> simp
@[simp] theorem State.dispatch_pins (f : List Byte) : (s.dispatch f).pins = s.pins := by
  unfold State.dispatch; (repeat' split) <;> simp
@[simp] theorem State.dispatch_partTime (f : List Byte) : (s.dispatch f).partTime = s.partTime := by
  unfold State.dispatch; (repeat' split) <;> simp
@[simp] theorem State.dispatch_subTime (f : List Byte) : (s.dispatch f).subTime = s.subTime := by
  unfold State.dispatch; (repeat' split) <;> simp
@[simp] theorem State.dispatch_settings (f : List Byte) : (s.dispatch f).settings = s.settings := by
  unfold State.dispatch; (repeat' split) <;> simp
@[simp] theorem State.dispatch_scan (f : List Byte) : (s.dispatch f).scan = s.scan := by
  unfold State.dispatch; (repeat' split) <;> simp
@[simp] theorem State.dispatch_cycle (f : List Byte) : (s.dispatch f).cycle = s.cycle := by
  unfold State.dispatch; (repeat' split) <;> simp
@[simp] theorem State.dispatch_weigh (f : List Byte) : (s.dispatch f).weigh = s.weigh := by
  unfold State.dispatch; (repeat' split) <;> simp
@[simp] theorem State.dispatch_link (f : List Byte) : (s.dispatch f).link = s.link := by
  unfold State.dispatch; (repeat' split) <;> simp
@[simp] theorem State.dispatch_free (f : List Byte) : (s.dispatch f).free = s.free := by
  unfold State.dispatch; (repeat' split) <;> simp

/-! ### State.compareTestFrame -/

@[simp] theorem State.compareTestFrame_pending (f : List Byte) : (s.compareTestFrame f).pending = s.pending := by
  unfold State.compareTestFrame; (try dsimp only); (repeat' split) <;> simp
@[simp] theorem State.compareTestFrame_pins (f : List Byte) : (s.compareTestFrame f).pins = s.pins := by
  unfold State.compareTestFrame; (try dsimp only); (repeat' split) <;> simp
@[simp] theorem State.compareTestFrame_partTime (f : List Byte) : (s.compareTestFrame f).partTime = s.partTime := by
  unfold State.compareTestFrame; (try dsimp only); (repeat' split) <;> simp
@[simp] theorem State.compareTestFrame_subTime (f : List Byte) : (s.compareTestFrame f).subTime = s.subTime := by
  unfold State.compareTestFrame; (try dsimp only); (repeat' split) <;> simp
@[simp] theorem State.compareTestFrame_settings (f : List Byte) : (s.compareTestFrame f).settings = s.settings := by
  unfold State.compareTestFrame; (try dsimp only); (repeat' split) <;> simp
@[simp] theorem State.compareTestFrame_cycle (f : List Byte) : (s.compareTestFrame f).cycle = s.cycle := by
  unfold State.compareTestFrame; (try dsimp only); (repeat' split) <;> simp
@[simp] theorem State.compareTestFrame_weigh (f : List Byte) : (s.compareTestFrame f).weigh = s.weigh := by
  unfold State.compareTestFrame; (try dsimp only); (repeat' split) <;> simp
@[simp] theorem State.compareTestFrame_trucks (f : List Byte) : (s.compareTestFrame f).trucks = s.trucks := by
  unfold State.compareTestFrame; (try dsimp only); (repeat' split) <;> simp
@[simp] theorem State.compareTestFrame_tally (f : List Byte) : (s.compareTestFrame f).tally = s.tally := by
  unfold State.compareTestFrame; (try dsimp only); (repeat' split) <;> simp
@[simp] theorem State.compareTestFrame_roster (f : List Byte) : (s.compareTestFrame f).roster = s.roster := by
  unfold State.compareTestFrame; (try dsimp only); (repeat' split) <;> simp
@[simp] theorem State.compareTestFrame_panel (f : List Byte) : (s.compareTestFrame f).panel = s.panel := by
  unfold State.compareTestFrame; (try dsimp only); (repeat' split) <;> simp
@[simp] theorem State.compareTestFrame_free (f : List Byte) : (s.compareTestFrame f).free = s.free := by
  unfold State.compareTestFrame; (try dsimp only); (repeat' split) <;> simp

/-! ### State.acceptFrame -/

@[simp] theorem State.acceptFrame_pending (f : List Byte) : (s.acceptFrame f).pending = s.pending := by
  unfold State.acceptFrame; dsimp only; split
  · simp
  · split <;> simp
@[simp] theorem State.acceptFrame_pins (f : List Byte) : (s.acceptFrame f).pins = s.pins := by
  unfold State.acceptFrame; dsimp only; split
  · simp
  · split <;> simp
@[simp] theorem State.acceptFrame_partTime (f : List Byte) : (s.acceptFrame f).partTime = s.partTime := by
  unfold State.acceptFrame; dsimp only; split
  · simp
  · split <;> simp
@[simp] theorem State.acceptFrame_subTime (f : List Byte) : (s.acceptFrame f).subTime = s.subTime := by
  unfold State.acceptFrame; dsimp only; split
  · simp
  · split <;> simp
@[simp] theorem State.acceptFrame_settings (f : List Byte) : (s.acceptFrame f).settings = s.settings := by
  unfold State.acceptFrame; dsimp only; split
  · simp
  · split <;> simp
@[simp] theorem State.acceptFrame_cycle (f : List Byte) : (s.acceptFrame f).cycle = s.cycle := by
  unfold State.acceptFrame; dsimp only; split
  · simp
  · split <;> simp
@[simp] theorem State.acceptFrame_weigh (f : List Byte) : (s.acceptFrame f).weigh = s.weigh := by
  unfold State.acceptFrame; dsimp only; split
  · simp
  · split <;> simp

/-! ### State.discardOnGap -/

@[simp] theorem State.discardOnGap_pending : (s.discardOnGap).pending = s.pending := by
  unfold State.discardOnGap; (repeat' split) <;> simp
@[simp] theorem State.discardOnGap_pins : (s.discardOnGap).pins = s.pins := by
  unfold State.discardOnGap; (repeat' split) <;> simp
@[simp] theorem State.discardOnGap_station : (s.discardOnGap).station = s.station := by
  unfold State.discardOnGap; (repeat' split) <;> simp
@[simp] theorem State.discardOnGap_partTime : (s.discardOnGap).partTime = s.partTime := by
  unfold State.discardOnGap; (repeat' split) <;> simp
@[simp] theorem State.discardOnGap_subTime : (s.discardOnGap).subTime = s.subTime := by
  unfold State.discardOnGap; (repeat' split) <;> simp
@[simp] theorem State.discardOnGap_startup : (s.discardOnGap).startup = s.startup := by
  unfold State.discardOnGap; (repeat' split) <;> simp
@[simp] theorem State.discardOnGap_settings : (s.discardOnGap).settings = s.settings := by
  unfold State.discardOnGap; (repeat' split) <;> simp
@[simp] theorem State.discardOnGap_scan : (s.discardOnGap).scan = s.scan := by
  unfold State.discardOnGap; (repeat' split) <;> simp
@[simp] theorem State.discardOnGap_cycle : (s.discardOnGap).cycle = s.cycle := by
  unfold State.discardOnGap; (repeat' split) <;> simp
@[simp] theorem State.discardOnGap_weigh : (s.discardOnGap).weigh = s.weigh := by
  unfold State.discardOnGap; (repeat' split) <;> simp
@[simp] theorem State.discardOnGap_trucks : (s.discardOnGap).trucks = s.trucks := by
  unfold State.discardOnGap; (repeat' split) <;> simp
@[simp] theorem State.discardOnGap_tally : (s.discardOnGap).tally = s.tally := by
  unfold State.discardOnGap; (repeat' split) <;> simp
@[simp] theorem State.discardOnGap_roster : (s.discardOnGap).roster = s.roster := by
  unfold State.discardOnGap; (repeat' split) <;> simp
@[simp] theorem State.discardOnGap_channel : (s.discardOnGap).channel = s.channel := by
  unfold State.discardOnGap; (repeat' split) <;> simp
@[simp] theorem State.discardOnGap_panel : (s.discardOnGap).panel = s.panel := by
  unfold State.discardOnGap; (repeat' split) <;> simp
@[simp] theorem State.discardOnGap_free : (s.discardOnGap).free = s.free := by
  unfold State.discardOnGap; (repeat' split) <;> simp

/-! ### State.loopedCharacterSent -/

@[simp] theorem State.loopedCharacterSent_pending (f : OnLine) : (s.loopedCharacterSent f).pending = s.pending := by
  unfold State.loopedCharacterSent; dsimp only; split
  · simp
  · split <;> simp
@[simp] theorem State.loopedCharacterSent_pins (f : OnLine) : (s.loopedCharacterSent f).pins = s.pins := by
  unfold State.loopedCharacterSent; dsimp only; split
  · simp
  · split <;> simp
@[simp] theorem State.loopedCharacterSent_station (f : OnLine) : (s.loopedCharacterSent f).station = s.station := by
  unfold State.loopedCharacterSent; dsimp only; split
  · simp
  · split <;> simp
@[simp] theorem State.loopedCharacterSent_partTime (f : OnLine) : (s.loopedCharacterSent f).partTime = s.partTime := by
  unfold State.loopedCharacterSent; dsimp only; split
  · simp
  · split <;> simp
@[simp] theorem State.loopedCharacterSent_subTime (f : OnLine) : (s.loopedCharacterSent f).subTime = s.subTime := by
  unfold State.loopedCharacterSent; dsimp only; split
  · simp
  · split <;> simp
@[simp] theorem State.loopedCharacterSent_settings (f : OnLine) : (s.loopedCharacterSent f).settings = s.settings := by
  unfold State.loopedCharacterSent; dsimp only; split
  · simp
  · split <;> simp
@[simp] theorem State.loopedCharacterSent_scan (f : OnLine) : (s.loopedCharacterSent f).scan = s.scan := by
  unfold State.loopedCharacterSent; dsimp only; split
  · simp
  · split <;> simp
@[simp] theorem State.loopedCharacterSent_cycle (f : OnLine) : (s.loopedCharacterSent f).cycle = s.cycle := by
  unfold State.loopedCharacterSent; dsimp only; split
  · simp
  · split <;> simp
@[simp] theorem State.loopedCharacterSent_weigh (f : OnLine) : (s.loopedCharacterSent f).weigh = s.weigh := by
  unfold State.loopedCharacterSent; dsimp only; split
  · simp
  · split <;> simp
@[simp] theorem State.loopedCharacterSent_trucks (f : OnLine) : (s.loopedCharacterSent f).trucks = s.trucks := by
  unfold State.loopedCharacterSent; dsimp only; split
  · simp
  · split <;> simp
@[simp] theorem State.loopedCharacterSent_tally (f : OnLine) : (s.loopedCharacterSent f).tally = s.tally := by
  unfold State.loopedCharacterSent; dsimp only; split
  · simp
  · split <;> simp
@[simp] theorem State.loopedCharacterSent_roster (f : OnLine) : (s.loopedCharacterSent f).roster = s.roster := by
  unfold State.loopedCharacterSent; dsimp only; split
  · simp
  · split <;> simp
@[simp] theorem State.loopedCharacterSent_channel (f : OnLine) : (s.loopedCharacterSent f).channel = s.channel := by
  unfold State.loopedCharacterSent; dsimp only; split
  · simp
  · split <;> simp
@[simp] theorem State.loopedCharacterSent_panel (f : OnLine) : (s.loopedCharacterSent f).panel = s.panel := by
  unfold State.loopedCharacterSent; dsimp only; split
  · simp
  · split <;> simp
@[simp] theorem State.loopedCharacterSent_free (f : OnLine) : (s.loopedCharacterSent f).free = s.free := by
  unfold State.loopedCharacterSent; dsimp only; split
  · simp
  · split <;> simp

/-! ### State.lineCharacterSent -/

@[simp] theorem State.lineCharacterSent_pending (f : OnLine) : (s.lineCharacterSent f).pending = s.pending := by
  unfold State.lineCharacterSent; split <;> simp
@[simp] theorem State.lineCharacterSent_station (f : OnLine) : (s.lineCharacterSent f).station = s.station := by
  unfold State.lineCharacterSent; split <;> simp
@[simp] theorem State.lineCharacterSent_partTime (f : OnLine) : (s.lineCharacterSent f).partTime = s.partTime := by
  unfold State.lineCharacterSent; split <;> simp
@[simp] theorem State.lineCharacterSent_subTime (f : OnLine) : (s.lineCharacterSent f).subTime = s.subTime := by
  unfold State.lineCharacterSent; split <;> simp
@[simp] theorem State.lineCharacterSent_startup (f : OnLine) : (s.lineCharacterSent f).startup = s.startup := by
  unfold State.lineCharacterSent; split <;> simp
@[simp] theorem State.lineCharacterSent_settings (f : OnLine) : (s.lineCharacterSent f).settings = s.settings := by
  unfold State.lineCharacterSent; split <;> simp
@[simp] theorem State.lineCharacterSent_scan (f : OnLine) : (s.lineCharacterSent f).scan = s.scan := by
  unfold State.lineCharacterSent; split <;> simp
@[simp] theorem State.lineCharacterSent_cycle (f : OnLine) : (s.lineCharacterSent f).cycle = s.cycle := by
  unfold State.lineCharacterSent; split <;> simp
@[simp] theorem State.lineCharacterSent_weigh (f : OnLine) : (s.lineCharacterSent f).weigh = s.weigh := by
  unfold State.lineCharacterSent; split <;> simp
@[simp] theorem State.lineCharacterSent_trucks (f : OnLine) : (s.lineCharacterSent f).trucks = s.trucks := by
  unfold State.lineCharacterSent; split <;> simp
@[simp] theorem State.lineCharacterSent_tally (f : OnLine) : (s.lineCharacterSent f).tally = s.tally := by
  unfold State.lineCharacterSent; split <;> simp
@[simp] theorem State.lineCharacterSent_roster (f : OnLine) : (s.lineCharacterSent f).roster = s.roster := by
  unfold State.lineCharacterSent; split <;> simp
@[simp] theorem State.lineCharacterSent_free (f : OnLine) : (s.lineCharacterSent f).free = s.free := by
  unfold State.lineCharacterSent; split <;> simp

/-! ### State.dispatchPress -/

@[simp] theorem State.dispatchPress_pending (k : Key) : (s.dispatchPress k).pending = s.pending := by cases k <;> simp [State.dispatchPress]
@[simp] theorem State.dispatchPress_pins (k : Key) : (s.dispatchPress k).pins = s.pins := by cases k <;> simp [State.dispatchPress]
@[simp] theorem State.dispatchPress_station (k : Key) : (s.dispatchPress k).station = s.station := by cases k <;> simp [State.dispatchPress]
@[simp] theorem State.dispatchPress_partTime (k : Key) : (s.dispatchPress k).partTime = s.partTime := by cases k <;> simp [State.dispatchPress]
@[simp] theorem State.dispatchPress_subTime (k : Key) : (s.dispatchPress k).subTime = s.subTime := by cases k <;> simp [State.dispatchPress]
@[simp] theorem State.dispatchPress_startup (k : Key) : (s.dispatchPress k).startup = s.startup := by cases k <;> simp [State.dispatchPress]
@[simp] theorem State.dispatchPress_settings (k : Key) : (s.dispatchPress k).settings = s.settings := by cases k <;> simp [State.dispatchPress]
@[simp] theorem State.dispatchPress_scan (k : Key) : (s.dispatchPress k).scan = s.scan := by cases k <;> simp [State.dispatchPress]
@[simp] theorem State.dispatchPress_roster (k : Key) : (s.dispatchPress k).roster = s.roster := by cases k <;> simp [State.dispatchPress]
@[simp] theorem State.dispatchPress_link (k : Key) : (s.dispatchPress k).link = s.link := by cases k <;> simp [State.dispatchPress]
@[simp] theorem State.dispatchPress_free (k : Key) : (s.dispatchPress k).free = s.free := by cases k <;> simp [State.dispatchPress]

/-! ### State.takePress -/

@[simp] theorem State.takePress_pending (k : Key) : (s.takePress k).pending = s.pending := by
  unfold State.takePress; (repeat' split) <;> simp
@[simp] theorem State.takePress_pins (k : Key) : (s.takePress k).pins = s.pins := by
  unfold State.takePress; (repeat' split) <;> simp
@[simp] theorem State.takePress_station (k : Key) : (s.takePress k).station = s.station := by
  unfold State.takePress; (repeat' split) <;> simp
@[simp] theorem State.takePress_partTime (k : Key) : (s.takePress k).partTime = s.partTime := by
  unfold State.takePress; (repeat' split) <;> simp
@[simp] theorem State.takePress_subTime (k : Key) : (s.takePress k).subTime = s.subTime := by
  unfold State.takePress; (repeat' split) <;> simp
@[simp] theorem State.takePress_startup (k : Key) : (s.takePress k).startup = s.startup := by
  unfold State.takePress; (repeat' split) <;> simp
@[simp] theorem State.takePress_settings (k : Key) : (s.takePress k).settings = s.settings := by
  unfold State.takePress; (repeat' split) <;> simp
@[simp] theorem State.takePress_scan (k : Key) : (s.takePress k).scan = s.scan := by
  unfold State.takePress; (repeat' split) <;> simp
@[simp] theorem State.takePress_roster (k : Key) : (s.takePress k).roster = s.roster := by
  unfold State.takePress; (repeat' split) <;> simp
@[simp] theorem State.takePress_link (k : Key) : (s.takePress k).link = s.link := by
  unfold State.takePress; (repeat' split) <;> simp
@[simp] theorem State.takePress_free (k : Key) : (s.takePress k).free = s.free := by
  unfold State.takePress; (repeat' split) <;> simp

/-! ### State.takeRelease -/

@[simp] theorem State.takeRelease_pending (k : Key) (b : Bool) : (s.takeRelease k b).pending = s.pending := by cases k <;> cases b <;> simp [State.takeRelease]
@[simp] theorem State.takeRelease_pins (k : Key) (b : Bool) : (s.takeRelease k b).pins = s.pins := by cases k <;> cases b <;> simp [State.takeRelease]
@[simp] theorem State.takeRelease_station (k : Key) (b : Bool) : (s.takeRelease k b).station = s.station := by cases k <;> cases b <;> simp [State.takeRelease]
@[simp] theorem State.takeRelease_partTime (k : Key) (b : Bool) : (s.takeRelease k b).partTime = s.partTime := by cases k <;> cases b <;> simp [State.takeRelease]
@[simp] theorem State.takeRelease_subTime (k : Key) (b : Bool) : (s.takeRelease k b).subTime = s.subTime := by cases k <;> cases b <;> simp [State.takeRelease]
@[simp] theorem State.takeRelease_startup (k : Key) (b : Bool) : (s.takeRelease k b).startup = s.startup := by cases k <;> cases b <;> simp [State.takeRelease]
@[simp] theorem State.takeRelease_settings (k : Key) (b : Bool) : (s.takeRelease k b).settings = s.settings := by cases k <;> cases b <;> simp [State.takeRelease]
@[simp] theorem State.takeRelease_scan (k : Key) (b : Bool) : (s.takeRelease k b).scan = s.scan := by cases k <;> cases b <;> simp [State.takeRelease]
@[simp] theorem State.takeRelease_cycle (k : Key) (b : Bool) : (s.takeRelease k b).cycle = s.cycle := by cases k <;> cases b <;> simp [State.takeRelease]
@[simp] theorem State.takeRelease_weigh (k : Key) (b : Bool) : (s.takeRelease k b).weigh = s.weigh := by cases k <;> cases b <;> simp [State.takeRelease]
@[simp] theorem State.takeRelease_trucks (k : Key) (b : Bool) : (s.takeRelease k b).trucks = s.trucks := by cases k <;> cases b <;> simp [State.takeRelease]
@[simp] theorem State.takeRelease_tally (k : Key) (b : Bool) : (s.takeRelease k b).tally = s.tally := by cases k <;> cases b <;> simp [State.takeRelease]
@[simp] theorem State.takeRelease_roster (k : Key) (b : Bool) : (s.takeRelease k b).roster = s.roster := by cases k <;> cases b <;> simp [State.takeRelease]
@[simp] theorem State.takeRelease_channel (k : Key) (b : Bool) : (s.takeRelease k b).channel = s.channel := by cases k <;> cases b <;> simp [State.takeRelease]
@[simp] theorem State.takeRelease_link (k : Key) (b : Bool) : (s.takeRelease k b).link = s.link := by cases k <;> cases b <;> simp [State.takeRelease]
@[simp] theorem State.takeRelease_free (k : Key) (b : Bool) : (s.takeRelease k b).free = s.free := by cases k <;> cases b <;> simp [State.takeRelease]

/-! ### State.handSettings -/

@[simp] theorem State.handSettings_pending (m : Image) : (s.handSettings m).pending = s.pending := by
  unfold State.handSettings; dsimp only; split <;> simp
@[simp] theorem State.handSettings_pins (m : Image) : (s.handSettings m).pins = s.pins := by
  unfold State.handSettings; dsimp only; split <;> simp
@[simp] theorem State.handSettings_station (m : Image) : (s.handSettings m).station = s.station := by
  unfold State.handSettings; dsimp only; split <;> simp
@[simp] theorem State.handSettings_partTime (m : Image) : (s.handSettings m).partTime = s.partTime := by
  unfold State.handSettings; dsimp only; split <;> simp
@[simp] theorem State.handSettings_subTime (m : Image) : (s.handSettings m).subTime = s.subTime := by
  unfold State.handSettings; dsimp only; split <;> simp
@[simp] theorem State.handSettings_startup (m : Image) : (s.handSettings m).startup = s.startup := by
  unfold State.handSettings; dsimp only; split <;> simp
@[simp] theorem State.handSettings_scan (m : Image) : (s.handSettings m).scan = s.scan := by
  unfold State.handSettings; dsimp only; split <;> simp
@[simp] theorem State.handSettings_cycle (m : Image) : (s.handSettings m).cycle = s.cycle := by
  unfold State.handSettings; dsimp only; split <;> simp
@[simp] theorem State.handSettings_trucks (m : Image) : (s.handSettings m).trucks = s.trucks := by
  unfold State.handSettings; dsimp only; split <;> simp
@[simp] theorem State.handSettings_tally (m : Image) : (s.handSettings m).tally = s.tally := by
  unfold State.handSettings; dsimp only; split <;> simp
@[simp] theorem State.handSettings_roster (m : Image) : (s.handSettings m).roster = s.roster := by
  unfold State.handSettings; dsimp only; split <;> simp
@[simp] theorem State.handSettings_channel (m : Image) : (s.handSettings m).channel = s.channel := by
  unfold State.handSettings; dsimp only; split <;> simp
@[simp] theorem State.handSettings_link (m : Image) : (s.handSettings m).link = s.link := by
  unfold State.handSettings; dsimp only; split <;> simp
@[simp] theorem State.handSettings_free (m : Image) : (s.handSettings m).free = s.free := by
  unfold State.handSettings; dsimp only; split <;> simp

/-! ### State.validate -/

@[simp] theorem State.validate_pending (m : Image) : (s.validate m).pending = s.pending := by
  unfold State.validate; (repeat' split) <;> simp
@[simp] theorem State.validate_pins (m : Image) : (s.validate m).pins = s.pins := by
  unfold State.validate; (repeat' split) <;> simp
@[simp] theorem State.validate_partTime (m : Image) : (s.validate m).partTime = s.partTime := by
  unfold State.validate; (repeat' split) <;> simp
@[simp] theorem State.validate_subTime (m : Image) : (s.validate m).subTime = s.subTime := by
  unfold State.validate; (repeat' split) <;> simp
@[simp] theorem State.validate_scan (m : Image) : (s.validate m).scan = s.scan := by
  unfold State.validate; (repeat' split) <;> simp
@[simp] theorem State.validate_cycle (m : Image) : (s.validate m).cycle = s.cycle := by
  unfold State.validate; (repeat' split) <;> simp
@[simp] theorem State.validate_trucks (m : Image) : (s.validate m).trucks = s.trucks := by
  unfold State.validate; (repeat' split) <;> simp
@[simp] theorem State.validate_tally (m : Image) : (s.validate m).tally = s.tally := by
  unfold State.validate; (repeat' split) <;> simp
@[simp] theorem State.validate_roster (m : Image) : (s.validate m).roster = s.roster := by
  unfold State.validate; (repeat' split) <;> simp
@[simp] theorem State.validate_channel (m : Image) : (s.validate m).channel = s.channel := by
  unfold State.validate; (repeat' split) <;> simp
@[simp] theorem State.validate_free (m : Image) : (s.validate m).free = s.free := by
  unfold State.validate; (repeat' split) <;> simp

end Sys2Proof.Machine
end

