-- ==== Sys2Proof/Laws/Ops.lean ====
section
/-! SUPPORT. The small lemmas of the shared operations: keys, timers, latches, table updates, text and list sizes. -/

namespace Sys2Proof.Machine

/-! ## Keys -/

@[simp] theorem PerKey.get_set_same {α : Type} (p : PerKey α) (k : Key) (a : α) : (p.set k a).get k = a := by
  cases k <;> rfl

theorem PerKey.get_set_other {α : Type} (p : PerKey α) (k j : Key) (a : α) (h : j ≠ k) :
    (p.set k a).get j = p.get j := by
  cases k <;> cases j <;> first | rfl | exact absurd rfl h

@[simp] theorem PerKey.get_all {α : Type} (a : α) (k : Key) : (PerKey.all a).get k = a := by cases k <;> rfl

/-! ## Timers -/

@[simp] theorem timerDue_none (now : PartTime) : timerDue now none = false := rfl

@[simp] theorem timerDue_some (now : PartTime) (t : Timer) :
    timerDue now (some t) = decide (t.run ≤ elapsed now t.start) := rfl

@[simp] theorem elapsed_self (now : PartTime) : elapsed now now = 0 := by simp [elapsed]

/-! ## Alert latches (R166, R167) -/

/-- After a report the condition copy is what was reported. -/
@[simp] theorem StateLatch.report_condition (l : StateLatch) (h : Bool) : (l.report h).condition = h := by
  unfold StateLatch.report
  split
  · rename_i e; exact e.symm
  · split
    · rename_i e; simp [e]
    · rename_i e; split <;> simp_all

@[simp] theorem Alerts.stateLatch_setState (a : Alerts) (k : StateAlert) (l : StateLatch) :
    (a.setState k l).stateLatch k = l := by cases k <;> rfl

theorem Alerts.stateLatch_setState_other (a : Alerts) (k j : StateAlert) (l : StateLatch) (h : j ≠ k) :
    (a.setState k l).stateLatch j = a.stateLatch j := by
  cases k <;> cases j <;> first | rfl | exact absurd rfl h

@[simp] theorem Alerts.eventLatch_setState (a : Alerts) (k : StateAlert) (j : EventAlert) (l : StateLatch) :
    (a.setState k l).eventLatch j = a.eventLatch j := by cases k <;> rfl

@[simp] theorem Alerts.eventLatch_setEvent (a : Alerts) (k : EventAlert) (l : EventLatch) :
    (a.setEvent k l).eventLatch k = l := by cases k <;> rfl

@[simp] theorem Alerts.stateLatch_setEvent (a : Alerts) (k : EventAlert) (j : StateAlert) (l : EventLatch) :
    (a.setEvent k l).stateLatch j = a.stateLatch j := by cases k <;> rfl

@[simp] theorem Alerts.freeze_setState (a : Alerts) (k : StateAlert) (l : StateLatch) :
    (a.setState k l).freeze = a.freeze := by cases k <;> rfl

@[simp] theorem Alerts.freeze_setEvent (a : Alerts) (k : EventAlert) (l : EventLatch) :
    (a.setEvent k l).freeze = a.freeze := by cases k <;> rfl

/-! ## The truck table -/

@[simp] theorem TruckTable.update_queue (t : TruckTable) (n : Nat) (f : TruckEntry → TruckEntry) :
    (t.update n f).queue = t.queue := rfl

@[simp] theorem TruckTable.update_pin (t : TruckTable) (n : Nat) (f : TruckEntry → TruckEntry) :
    (t.update n f).pin = t.pin := rfl

@[simp] theorem TruckTable.update_length (t : TruckTable) (n : Nat) (f : TruckEntry → TruckEntry) :
    (t.update n f).entries.length = t.entries.length := by simp [TruckTable.update]

/-- An update that keeps truck numbers keeps the list of them. -/
theorem TruckTable.update_trucks (t : TruckTable) (n : Nat) (f : TruckEntry → TruckEntry)
    (hf : ∀ e, (f e).truck = e.truck) : (t.update n f).entries.map (·.truck) = t.entries.map (·.truck) := by
  simp only [TruckTable.update, List.map_map]
  refine List.map_congr_left fun e _ => ?_
  simp only [Function.comp]
  split <;> simp [hf]

/-- A found entry is the entry of that truck, and stands in the table. -/
theorem TruckTable.find_some (t : TruckTable) (n : Nat) (e : TruckEntry) (h : t.find n = some e) :
    e ∈ t.entries ∧ e.truck = n :=
  ⟨List.mem_of_find?_eq_some h, by simpa using List.find?_some h⟩

/-! ## Lists of bounded length -/

theorem addPass_length (ps : List PassRecord) (p : PassRecord) (h : ps.length ≤ 16) : (addPass ps p).length ≤ 16 := by
  unfold addPass
  split <;> simp <;> omega

theorem ChannelAccess.queueNotice_length (c : ChannelAccess) (n : Notice) (h : c.notices.length ≤ 4) :
    (c.queueNotice n).notices.length ≤ 4 := by
  unfold ChannelAccess.queueNotice
  dsimp only
  split
  · simpa using h
  · split <;> simp <;> omega

theorem LinkPort.store_length (l : LinkPort) (b : Byte) (g o : Bool) (h : l.fifo.length ≤ 64) :
    (l.store b g o).fifo.length ≤ 64 := by
  unfold LinkPort.store
  split
  · simp; omega
  · exact h

theorem sixSlots_length (es : List Slot) : (sixSlots es).length = 6 := by simp [sixSlots]

/-! ## Part time -/

theorem addTotal_le (total amount : Nat) : addTotal total amount ≤ 4294967295 := Nat.min_le_right _ _

end Sys2Proof.Machine
end

