-- ==== Sys2Proof/Laws/Settled.lean ====
section
/-! SUPPORT. No operation of the scan and of the items reads the cells, the transfer or the hold-off: a text handed inside
a command changes nothing that comes after it but these. -/

namespace Sys2Proof.Machine

/-! ## Operations that leave the three as they find them -/

variable (s : State) (f : List FieldCell) (x : Option Transfer) (o : Option Timer)

theorem State.recell_endTare (w : WeighState) : (s.recell f x o).endTare w = (s.endTare w).recell f x o := rfl

theorem State.recell_report (k : StateAlert) (h : Bool) :
    (s.recell f x o).report k h = (s.report k h).recell f x o := rfl

theorem State.recell_raise (k : EventAlert) : (s.recell f x o).raise k = (s.raise k).recell f x o := rfl

theorem State.recell_withPhase (k : Phase) : (s.recell f x o).withPhase k = (s.withPhase k).recell f x o := rfl

theorem State.recell_evalOverload : (s.recell f x o).evalOverload = (s.evalOverload).recell f x o := rfl

theorem State.recell_discardBucket : (s.recell f x o).discardBucket = (s.discardBucket).recell f x o := rfl

theorem State.recell_handNotice (r : Contribution) :
    (s.recell f x o).handNotice r = (s.handNotice r).recell f x o := by
  unfold State.handNotice ChannelAccess.queueNotice; dsimp only; (repeat' split) <;> rfl

theorem State.recell_armForWeigh : (s.recell f x o).armForWeigh = (s.armForWeigh).recell f x o := by
  unfold State.armForWeigh; split <;> rfl

theorem State.recell_leaveEmpty : (s.recell f x o).leaveEmpty = (s.leaveEmpty).recell f x o := by
  unfold State.leaveEmpty; split <;> rfl

theorem State.recell_blockWeigh : (s.recell f x o).blockWeigh = (s.blockWeigh).recell f x o := by
  unfold State.blockWeigh; split <;> rfl

theorem State.recell_unblockWeigh : (s.recell f x o).unblockWeigh = (s.unblockWeigh).recell f x o := by
  unfold State.unblockWeigh; (repeat' split) <;> rfl

theorem State.recell_takeFaultChange (b : Bool) :
    (s.recell f x o).takeFaultChange b = (s.takeFaultChange b).recell f x o := by
  unfold State.takeFaultChange
  rw [State.recell_blockWeigh, State.recell_unblockWeigh]
  split <;> try rfl
  split <;> rfl

theorem State.recell_abortCapture : (s.recell f x o).abortCapture = (s.abortCapture).recell f x o := by
  unfold State.abortCapture; (repeat' split) <;> rfl

theorem State.recell_completeTare : (s.recell f x o).completeTare = (s.completeTare).recell f x o := by
  unfold State.completeTare; dsimp only; (repeat' split) <;> rfl

theorem State.recell_completeCapture : (s.recell f x o).completeCapture = (s.completeCapture).recell f x o := by
  unfold State.completeCapture; rw [State.recell_completeTare]; (repeat' split) <;> rfl

theorem State.recell_scanInCapture (b : Int) (r : Option LoadReading) :
    (s.recell f x o).scanInCapture b r = (s.scanInCapture b r).recell f x o := by
  unfold State.scanInCapture
  split
  · exact s.recell_abortCapture f x o
  · dsimp only
    split
    · exact State.recell_abortCapture _ f x o
    · split
      · exact State.recell_completeCapture { s with weigh := s.weigh.raiseHighest b } f x o
      · rfl

theorem State.recell_crossing (b : Int) (r : Option LoadReading) :
    (s.recell f x o).crossing b r = (s.crossing b r).recell f x o := by
  unfold State.crossing
  dsimp only
  split
  · exact State.recell_scanInCapture { s with weigh := s.weigh.startCapture s.partTime s.settings.captureDelay b } f x o b r
  · rfl

theorem State.recell_scanInDelay (b : Int) : (s.recell f x o).scanInDelay b = (s.scanInDelay b).recell f x o := by
  unfold State.scanInDelay
  dsimp only
  split
  · exact State.recell_abortCapture { s with weigh := s.weigh.raiseHighest b } f x o
  · rfl

theorem State.recell_usableScan (b : Int) (r : Option LoadReading) :
    (s.recell f x o).usableScan b r = (s.usableScan b r).recell f x o := by
  unfold State.usableScan
  rw [State.recell_crossing, State.recell_scanInDelay, State.recell_scanInCapture]
  dsimp only
  split <;> (try split) <;> rfl

theorem State.recell_weighScan (c : Scan) : (s.recell f x o).weighScan c = (s.weighScan c).recell f x o := by
  unfold State.weighScan
  split
  · rw [State.recell_abortCapture]; split <;> rfl
  · rw [State.recell_usableScan]

theorem State.recell_creditOwn (m : Option Nat) (rs : List Contribution) (r : Contribution) :
    (s.recell f x o).creditOwn m rs r = (s.creditOwn m rs r).recell f x o :=
  congrArg State.evalOverload (State.recell_handNotice
    { s with tally := { s.tally with records := rs, shift := s.tally.shift.addOwn m } } f x o r)

theorem State.recell_credit (m : Option Nat) (l : Option Load) :
    (s.recell f x o).credit m l = ((s.credit m l).1.recell f x o, (s.credit m l).2) := by
  unfold State.credit
  simp only [State.recell_creditOwn]
  (repeat' split) <;> rfl

theorem State.recell_mergePeer (i : Item) : (s.recell f x o).mergePeer i = (s.mergePeer i).recell f x o := by
  unfold State.mergePeer
  dsimp only
  (repeat' split) <;> rfl

theorem State.recell_adopt (i : Item) : (s.recell f x o).adopt i = (s.adopt i).recell f x o := by
  unfold State.adopt
  dsimp only
  split <;> split <;>
    first | rfl | exact congrArg State.evalOverload (State.recell_handNotice (s.withRecords _) f x o _)

theorem State.recell_mergeItem (i : Item) : (s.recell f x o).mergeItem i = (s.mergeItem i).recell f x o := by
  unfold State.mergeItem
  simp only [State.recell_adopt, State.recell_mergePeer]
  (repeat' split) <;> rfl

/-! ## What differs in the three only, stays so -/

variable {s}

theorem SettledFrom.weighScan {t : State} (h : SettledFrom s t) (c : Scan) :
    SettledFrom (s.weighScan c) (t.weighScan c) := by
  obtain ⟨f, x, o, rfl⟩ := h
  exact ⟨f, x, o, s.recell_weighScan f x o c⟩

theorem SettledFrom.takeFaultChange {t : State} (h : SettledFrom s t) (b : Bool) :
    SettledFrom (s.takeFaultChange b) (t.takeFaultChange b) := by
  obtain ⟨f, x, o, rfl⟩ := h
  exact ⟨f, x, o, s.recell_takeFaultChange f x o b⟩

theorem SettledFrom.mergeItem {t : State} (h : SettledFrom s t) (i : Item) :
    SettledFrom (s.mergeItem i) (t.mergeItem i) := by
  obtain ⟨f, x, o, rfl⟩ := h
  exact ⟨f, x, o, s.recell_mergeItem f x o i⟩

theorem SettledFrom.handed {t : State} (h : SettledFrom s t) (p q : Nat → Bool) :
    SettledFrom (s.handWhere p) (t.handWhere q) := by
  obtain ⟨_, _, hs⟩ := s.handWhere_frame p
  obtain ⟨f, x, ht⟩ := t.handWhere_frame q
  obtain ⟨_, _, o, rfl⟩ := h
  rw [hs, ht]
  exact ⟨f, x, o, rfl⟩

theorem SettledFrom.mergeItems {t : State} (h : SettledFrom s t) (is : List Item) :
    SettledFrom (s.mergeItems is) (t.mergeItems is) := by
  unfold State.mergeItems
  induction is generalizing s t with
  | nil => exact h
  | cons i is ih => exact ih ((h.mergeItem i).handed _ _)

theorem SettledFrom.raiseUnweighed {t : State} (h : SettledFrom s t) (m : Option Nat) :
    SettledFrom (s.raiseUnweighed m) (t.raiseUnweighed m) := by
  obtain ⟨f, x, o, rfl⟩ := h
  unfold State.raiseUnweighed
  split <;> exact ⟨f, x, o, rfl⟩

theorem SettledFrom.move {t : State} (h : SettledFrom s t) (m : Move) : SettledFrom (s.move m) (t.move m) := by
  cases m with
  | stay => exact h
  | dig =>
    obtain ⟨f, x, o, rfl⟩ := h
    exact ⟨f, x, o, State.recell_leaveEmpty (s.withPhase .digging) f x o⟩
  | load =>
    obtain ⟨f, x, o, rfl⟩ := h
    exact ⟨f, x, o, State.recell_armForWeigh (s.withPhase .loaded) f x o⟩
  | flatDig =>
    obtain ⟨f, x, o, rfl⟩ := h
    exact ⟨f, x, o, rfl⟩
  | dump =>
    obtain ⟨f, x, o, rfl⟩ := h
    show SettledFrom s.dump (State.dump (s.recell f x o))
    unfold State.dump
    simp only [State.recell_discardBucket, State.recell_credit]
    refine SettledFrom.handed ?_ _ _
    refine SettledFrom.raiseUnweighed ?_ _
    have k : ∀ u : State, SettledFrom (u.hand creditFields) ((u.recell f x o).hand creditFields) := fun u =>
      SettledFrom.handed ⟨f, x, o, rfl⟩ _ _
    obtain ⟨_, _, _, k⟩ := k (s.discardBucket.credit s.weigh.handover.mass s.trucks.receivingLoad).1
    rw [k]
    exact ⟨_, _, _, rfl⟩
  | abandon =>
    obtain ⟨f, x, o, rfl⟩ := h
    have k : ∀ u : State, SettledFrom (u.hand [11]) ((u.recell f x o).hand [11]) := fun u =>
      SettledFrom.handed ⟨f, x, o, rfl⟩ _ _
    obtain ⟨f, x, o, k⟩ :=
      k { s with cycle := { s.cycle with phase := .empty, abandoned := countUp s.cycle.abandoned } }
    exact ⟨f, x, o, congrArg State.discardBucket k⟩
  | dumpEnd =>
    obtain ⟨f, x, o, rfl⟩ := h
    exact ⟨f, x, o, by unfold State.move State.endDump; dsimp only; split <;> rfl⟩

theorem SettledFrom.cycleScan {t : State} (h : SettledFrom s t) (c : Scan) :
    SettledFrom (s.cycleScan c) (t.cycleScan c) := by
  cases c with
  | notUsable => exact h
  | usable boom tilt d b r =>
    have m := h.move (phaseMove s.settings s.cycle.phase boom tilt d)
    obtain ⟨f, x, o, rfl⟩ := h
    unfold State.cycleScan
    dsimp only
    split
    · exact ⟨f, x, o, rfl⟩
    · exact m
variable (s)

/-- A scan handed on is what its blocks make of it one after another, but for the texts handed between them. -/
theorem State.handOn_settledFrom (c : Scan) :
    SettledFrom ((((s.judgeScan c.isUsable).takeFaultChange s.scan.fault).cycleScan c).weighScan c) (s.handOn c) := by
  have judged := (s.judgeScan c.isUsable).handWhere_settledFrom fun _ => true
  have changed := (judged.takeFaultChange s.scan.fault).trans (State.handWhere_settledFrom _ fun _ => true)
  have moved := (changed.cycleScan c).trans (State.handWhere_settledFrom _ fun _ => true)
  exact (moved.weighScan c).trans (State.settle_settledFrom _)

/-- Items taken are merged items, but for the texts handed between them. -/
theorem State.mergeItems_settledFrom (is : List Item) : SettledFrom (is.foldl State.mergeItem s) (s.mergeItems is) := by
  unfold State.mergeItems
  suffices h : ∀ (t : State), SettledFrom s t → SettledFrom (is.foldl State.mergeItem s) (is.foldl State.takeItem t) from
    h s (SettledFrom.refl s)
  induction is generalizing s with
  | nil => exact fun _ h => h
  | cons i is ih => exact fun t h => ih _ _ ((h.mergeItem i).trans (State.handWhere_settledFrom _ _))

end Sys2Proof.Machine
end

