-- ==== Sys2Proof/Tests/Slice0.lean ====
section
/-! SUPPORT. Tests of the model: well-formedness, the manual's worked examples, one small step per command, and for every
statement of Certificates/Slice0/Obligations.lean states and operands that meet its hypotheses, clause by clause. -/

namespace Sys2Proof.Tests

open Sys2Proof Sys2Proof.Machine Host.Outcome

/-! ## Small states -/

/-- A face's settings, at the limits the tests use. -/
def settings : Settings :=
  { Settings.reset with
    station := 5, windowStart := 100, windowWidth := 100, headArea := 10, rodArea := 5, zeroForce := 6000,
    spanForce := 15000, spanMass := 1500, minSamples := 4, retakes := 2, overloadMargin := 20,
    materials := [⟨textOf ['S', 'T', 'D', ' '], 160⟩] }

/-- A part on the face at part time 100000, its scan timer due now to the millisecond. -/
def face (station : StationState) : State :=
  { State.reset with
    station := station, partTime := 100000, settings := settings
    scan := { State.reset.scan with timer := some ⟨99980, 20⟩ }
    weigh := { State.reset.weigh with zeroForce := 6000 }
    link := { State.reset.link with receiveEnable := true, rdyOut := true } }

def active : State := face .active

/-- A timer that expires at part time 100000. -/
def due (run : Nat) : Timer := ⟨100000 - BitVec.ofNat 32 run, run⟩

/-- A truck's entry, heard a number of milliseconds ago. -/
def truck (n epoch : Nat) (state : TruckState) (ago : Nat) : TruckEntry :=
  ⟨n, epoch, state, [5], 100, none, 100000 - BitVec.ofNat 32 ago, if state = .lost then some 70000 else none, false, false⟩

def withTrucks (es : List TruckEntry) (queue : List Nat) (s : State) : State := { s with trucks := ⟨es, queue, none⟩ }

def withRecords (rs : List Contribution) (s : State) : State := { s with tally := { s.tally with records := rs } }

def ownRecord (truck revision passes : Nat) : Contribution := ⟨5, truck, 1, revision, passes, 0, 50, true⟩

/-- A part with truck 9 spotted here and a record of its load. -/
def loading : State := withRecords [ownRecord 9 254 47] (withTrucks [truck 9 1 .spottedHere 0] [9] active)

def withScan (f : ScanInFlight) (s : State) : State := { s with scan := { s.scan with inFlight := some f } }

def withWeigh (state : WeighState) (purpose : Option Purpose) (s : State) : State :=
  { s with weigh := { s.weigh with state := state, purpose := purpose, highestBoom := some 110, previousBoom := some 99 } }

def withPhase (phase : Phase) (s : State) : State := { s with cycle := { s.cycle with phase := phase } }

/-- A key's debounce timer due now, the key in a state. -/
def pressed (k : Key) (state : KeyState) (s : State) : State :=
  { s with panel := { s.panel with
      debounce := s.panel.debounce.set k (some (due 30)), keys := s.panel.keys.set k state } }

def withFifo (xs : List RxByte) (assembler : AssemblerState) (s : State) : State :=
  { s with link := { s.link with fifo := xs, assembler := assembler } }

/-- A frame of two characters on the line, one character time after the start of the character being sent. -/
def sending (sent : Nat) (s : State) : State :=
  { s with link := { s.link with
      transmitter := .sending, onLine := some ⟨[0xF1, 0xF2], sent⟩, charStart := some ⟨99998, 552⟩ } }

def withRoster (es : List RosterEntry) (s : State) : State := { s with roster := es }

def loader (n : Nat) (state : Liveness) (ago : Nat) : RosterEntry :=
  ⟨n, state, 100000 - BitVec.ofNat 32 ago, if state = .lost then some 40000 else none, some 3, some true, some none⟩

def withNotices (ns : List Notice) (s : State) : State := { s with channel := { s.channel with notices := ns } }

def notice (truck : Nat) : Notice := ⟨⟨truck, 1, 1, 1, 0, 10⟩, 7⟩

/-- A configuration image that passes every group, with its check. -/
def goodImage : Image :=
  0x1404482881e6704b16a12c00027100009c45a89603212df384b064190028014005dc000ea601770fa000a1a7522202800000000000000000000000000000306f#512

/-- An image of zeros with the check that agrees: the critical groups fail. -/
def zeroImage : Image := 0xc9db#512

/-! ## Well-formed commands -/

theorem test_ill_formed_truck_aging : WellFormed (.truckAgingExpiry 0) = false ∧ WellFormed (.truckAgingExpiry 60) = true := by
  decide
theorem test_ill_formed_lost_hold : WellFormed (.lostHoldEnd 61) = false ∧ WellFormed (.lostHoldEnd 1) = true := by decide
theorem test_ill_formed_roster_quiet : WellFormed (.rosterQuietExpiry 0) = false := by decide
theorem test_ill_formed_roster_lost : WellFormed (.rosterLostExpiry 61) = false := by decide
theorem test_ill_formed_roster_removal : WellFormed (.rosterRemovalExpiry 255) = false := by decide

/-! ## Worked examples of the manual -/

theorem test_check_of_nine_digits :
    crc16 [0x31, 0x32, 0x33, 0x34, 0x35, 0x36, 0x37, 0x38, 0x39] = 0x29B1#16 := by decide +kernel
theorem test_mass_of_the_example :
    captureMass { settings with spanForce := 1500000, spanMass := 1500 } 600000 7020000 6 = 950 := by decide
theorem test_fill_of_the_example : fillPercent 500 180 960 = 107 ∧ fillPercent 500 180 0 = 0 ∧ fillPercent 1 1 65535 = 199 := by
  decide
theorem test_status_words :
    readStatus 1 = (.forward, false) ∧ readStatus 6 = (.neutral, true) ∧ readStatus 0 = (.none, true) ∧
      readStatus 9 = (.none, true) := by decide
theorem test_texts :
    tonnes 129 = textOf ['1', '.', '2'] ∧ signedTonnes (-129) = textOf ['-', '1', '.', '2'] ∧
      decimal 4294967295 = textOf ['4', '2', '9', '4', '9', '6', '7', '2', '9', '5'] ∧
      padText (textOf ['Q']) = textOf ['Q', ' ', ' ', ' ', ' ', ' ', ' ', ' '] := by decide
theorem test_line_character : encodeCharacter false 0xF1 = 0b1111100010#10 ∧ encodeCharacter true 0xF1 = 0b0000011101#10 := by
  decide
theorem test_image_of_the_settings : imageCheckAgrees goodImage = true ∧ criticalPasses goodImage = true ∧
    takesDefaults goodImage = false ∧ (valuesInUse goodImage).boom = ⟨-400, 600⟩ ∧ (valuesInUse goodImage).spanMass = 1500 := by
  decide +kernel
theorem test_no_word_spells_a_command : decodeTableWord 8 0 = none := rfl

/-! ## One step per command -/

/-- The state after a command. -/
def after (c : Instr) (s : State) : Option State :=
  match exec c s with
  | .next t => some t
  | .fault _ => none
  | .refused _ => none

theorem test_step_reset : (after (.deviceReset .powerOn) active).map (·.station) = some .reset := by decide
theorem test_step_release : (after .resetRelease State.reset).map (·.station) = some .configRead := by decide +kernel
theorem test_step_wrap : (after .partTimeWrap { active with partTime := 4294967295 }).map (·.partTime) = some 0 := by decide
theorem test_step_read_timer : (after .readTimerExpiry
    { State.reset with station := .configRead, startup := { State.reset.startup with readTimer := some ⟨-200, 200⟩ } }).map
      (·.station) = some .halted := by decide +kernel
theorem test_step_join : (after .joinTimerExpiry
    { face .listen with startup := { State.reset.startup with joinTimer := some (due 3000) } }).map (·.channel.parts.length) =
      some 1 := by decide +kernel
theorem test_step_scan_timer : (after .scanTimerExpiry active).map (·.scnReq) = some true := by decide
theorem test_step_scan_timeout : (after .scanTimeout (withScan ⟨.opened, 99992, 0, []⟩ active)).map (·.scan.bad) = some 1 := by
  decide +kernel
theorem test_step_block_end : (after .blockEnd (withScan ⟨.opened, 100000, 6, [0, 0, 0, 0, 0, 1]⟩ active)).map
    (fun t => (t.scan.good, t.cycle.phase)) = some (1, .digging) := by decide +kernel
theorem test_step_aging : (after (.truckAgingExpiry 9) (withTrucks [truck 9 1 .spottedHere 3000] [9] active)).map
    (fun t => (t.trucks.queue, (t.trucks.find 9).map (·.state))) = some ([], some .lost) := by decide +kernel
theorem test_step_lost_hold : (after (.lostHoldEnd 9) (withRecords [ownRecord 9 3 2] (withTrucks [truck 9 1 .lost 40000] [] active))).map
    (fun t => (t.trucks.entries.length, t.tally.records.length, t.tally.log.length)) = some (0, 0, 1) := by decide +kernel
theorem test_step_roster : (after (.rosterQuietExpiry 7) (withRoster [loader 7 .live 2500] active)).map
    (fun t => t.roster.map (·.state)) = some [.quiet] := by decide +kernel
theorem test_step_beacon : (after .beaconTimerExpiry
    { active with channel := { active.channel with beaconTimer := some (due 1000) } }).map
      (fun t => (t.channel.beaconSequence, t.channel.beaconTimer)) = some (1, some ⟨100000, 1000⟩) := by decide +kernel
theorem test_step_hold_off : (after (.holdOffExpiry false)
    (withNotices [notice 9] { active with channel := { active.channel with holdOff := some (due 10) } })).map
      (fun t => (t.channel.frameOnLine, t.link.transmitter)) = some (true, .sending) := by decide +kernel
theorem test_step_carrier : (after .carrierRise active).map (fun t => t.channel.carrierWatch) = some (some ⟨100000, 2000⟩) := by
  decide
theorem test_step_character : (after (.characterReceived ⟨true, 0b1111100010#10⟩) active).map (fun t => t.link.fifo.map (·.byte)) =
    some [0xF1] := by decide
theorem test_step_assembler : (after .assemblerTakesByte (withFifo [⟨0xF1, false, false, false⟩] .hunting active)).map
    (·.link.assembler) = some .inFrame := by decide
theorem test_step_character_sent : (after (.characterSent false) (sending 0 active)).map
    (fun t => t.link.onLine.map (·.sent)) = some (some 1) := by decide
theorem test_step_accept : (after .accept { active with panel := { active.panel with
    transfer := some ⟨3, [], ⟨100000, 50⟩⟩ } }).map (fun t => t.panel.transfer.map (·.field)) = some (some 0) := by decide
theorem test_step_zero : (after (.keyDebounceExpiry .zero) (pressed .zero .up active)).map (·.weigh.purpose) =
    some (some .tare) := by decide +kernel
theorem test_step_shift : (after .shiftHoldExpiry { active with
    cycle := { active.cycle with cycles := 7 }
    panel := { (pressed .shift (.down true) active).panel with shiftHold := some (due 3000) } }).map
      (·.cycle.cycles) = some 0 := by decide +kernel
theorem test_step_image : (after (.configReadComplete goodImage)
    { State.reset with station := .configRead, startup := { State.reset.startup with read := .reading } }).map
      (fun t => (t.station, t.settings.station)) = some (.selfTest, 5) := by decide +kernel
theorem test_step_voided : (after (.keyDebounceExpiry .void) (pressed .void .up { active with
    cycle := { active.cycle with passes := [⟨1, 0, 40001, some 10, .good, none, 0, none, false⟩] } })).map
      (fun t => t.cycle.passes.map (·.voided)) = some [true] := by decide +kernel

theorem test_handover_sends_the_material_first : (after (.configReadComplete goodImage)
    { State.reset with
      station := .configRead
      startup := { State.reset.startup with read := .reading }
      panel := { State.reset.panel with fields := State.reset.panel.fields.map fun c => { c with pending := false } } }).map
        (fun t => t.panel.transfer.map (·.field)) = some (some 14) := by decide +kernel
theorem test_cs_in_falls_at_the_last_character : (after (.characterSent true) (sending 1 active)).map
    (fun t => (t.pins.csIn, t.link.transmitter)) = some (false, .idle) := by decide +kernel

/-! ## States and operands that meet the hypotheses of the statements -/

theorem test_meets_StepTakesFrontCommand : { active with pending := [.accept] }.pending = .accept :: [] := rfl

theorem test_meets_EveryStepAnswersNext : active.pending = [] ∧ active.dueEvents ≠ [] := by decide +kernel

theorem test_meets_PartTimeCountsAndWraps :
    (State.reset.pending = [] ∧ State.reset.dueEvents = [] ∧ State.reset.station = .reset) ∧
    (let s : State := { active with scan := State.reset.scan, subTime := 575 }
     s.pending = [] ∧ s.dueEvents = [] ∧ s.station ≠ .reset ∧ s.subTime < 576) ∧
    ({ active with partTime := 4294967295 }.partTime = 4294967295#32 ∧ active.station ≠ .reset) := by decide +kernel

theorem test_meets_ResetAndRelease :
    (ResetCause.lineLow 100 = .powerOn ∨ ∃ n, 100 ≤ n ∧ ResetCause.lineLow 100 = .lineLow n) ∧ 99 < 100 ∧
      State.reset.station = .reset := ⟨.inr ⟨100, by decide, rfl⟩, by decide, rfl⟩

/-- A part reading its configuration memory. -/
def reading (read : ConfigRead) : State :=
  { State.reset with station := .configRead, startup := { State.reset.startup with read := read } }

theorem test_meets_StatusByteReadyOrBusy :
    (reading .polling).station = .configRead ∧ (reading .polling).startup.read = .polling ∧
      (0xFE : Byte).getLsbD 0 = false ∧ (0x01 : Byte).getLsbD 0 = true ∧ (reading .polling).cfgCs = true ∧
      (reading .stopped).cfgCs = false := by decide

theorem test_meets_ImageIsCheckedAndTaken :
    (reading .reading).station = .configRead ∧ (reading .reading).startup.read = .reading ∧
      imageCheckAgrees 0 = false ∧ (imageCheckAgrees zeroImage = true ∧ criticalPasses zeroImage = false) ∧
      (imageCheckAgrees goodImage = true ∧ criticalPasses goodImage = true) ∧
    (let s : State := { reading .reading with panel := { State.reset.panel with
        fields := State.reset.panel.fields.map fun c => { c with pending := false } } }
     s.panel.transfer = none ∧ s.panel.retryPause = none ∧ (∀ c ∈ s.panel.fields, c.pending = false) ∧
       s.panel.fields[14]? = some ⟨padText [], false⟩ ∧
       (((valuesInUse goodImage).materials[s.panel.material]?).map fun e => padText e.name).isSome = true ∧
       ((valuesInUse goodImage).materials[s.panel.material]?).map (fun e => padText e.name) ≠ some (padText [])) := by
  decide +kernel

theorem test_meets_ValuesInUseInRange :
    let g := imageSigned goodImage
    let z := imageSigned zeroImage
    ((-400 ≤ g 161 11 ∧ g 161 11 ≤ 600) ∧ (-600 ≤ g 172 11 ∧ g 172 11 ≤ 600) ∧ (-600 ≤ g 183 11 ∧ g 183 11 ≤ 600) ∧
      (-400 ≤ g 194 11 ∧ g 194 11 ≤ 600) ∧ g 183 11 < g 172 11 ∧ g 161 11 + 20 ≤ g 194 11) ∧
    ¬ z 183 11 < z 172 11 ∧ 1 ≤ imageField goodImage 341 3 ∧ ¬ 1 ≤ imageField zeroImage 341 3 := by decide +kernel

theorem test_meets_StartUpTimersExpire :
    let now : PartTime := 100000
    ((due 200).run ≤ (now - (due 200).start).toNat ∧ (due 100).run ≤ (now - (due 100).start).toNat ∧
      (due 3000).run ≤ (now - (due 3000).start).toNat) ∧
    (let s : State := { face .configRead with startup := { State.reset.startup with readTimer := some (due 200) } }
     s.partTime = now ∧ s.station = .configRead ∧ s.startup.readTimer = some (due 200)) ∧
    (let s : State := { face .selfTest with startup := { State.reset.startup with selfTestTimer := some (due 100) } }
     s.partTime = now ∧ s.station = .selfTest ∧ s.startup.selfTestTimer = some (due 100)) ∧
    (let s : State := { face .listen with startup := { State.reset.startup with joinTimer := some (due 3000) } }
     s.partTime = now ∧ s.station = .listen ∧ s.startup.joinTimer = some (due 3000)) := by decide

theorem test_meets_RequestOnlyAtScanExpiry :
    (active.station.onFace = true ∧ active.scan.timer = some ⟨99980, 20⟩ ∧ 20 ≤ (active.partTime - 99980).toNat ∧
      active.scan.inFlight = none) ∧
    (∃ t, exec (.wordReady 0) (withScan ⟨.opened, 99993, 0, []⟩ active) = next t ∧ t.scnReq = true) :=
  ⟨by decide, _, rfl, by decide⟩

theorem test_meets_ScanTimerKeepsItsSpacing :
    (active.station.onFace = true ∧ active.scan.timer = some ⟨99980, 20⟩ ∧ 20 ≤ (active.partTime - 99980).toNat) ∧
      (∃ t, exec .scanTimerExpiry active = next t) ∧ ∃ t, exec .accept active = next t :=
  ⟨by decide, ⟨_, rfl⟩, _, rfl⟩

theorem test_meets_BadSlotsCount :
    ∀ bad ∈ [3, 4], let s := withScan ⟨.opened, 99992, 5, []⟩ { active with scan := { active.scan with bad := bad } }
    ((s.scan.fault || min (s.scan.bad + 1) 5 == 5) = s.scan.fault ↔ bad = 3) ∧ s.station.onFace = true ∧ s.scan.inFlight = some ⟨.opened, 99992, 5, []⟩ ∧
      s.scan.timer = some ⟨99980, 20⟩ ∧ 20 ≤ (s.partTime - 99980).toNat ∧ 8 ≤ (s.partTime - 99992).toNat := by decide

theorem test_meets_WordReadyCountsAndKeeps :
    active.scan.inFlight = none ∧
      (withScan ⟨.closing, 0, 0, []⟩ active).scan.inFlight = some ⟨.closing, 0, 0, []⟩ ∧
      (withScan ⟨.opened, 0, 255, [1, 2, 3, 4, 5, 6]⟩ active).scan.inFlight = some ⟨.opened, 0, 255, [1, 2, 3, 4, 5, 6]⟩ := by
  decide

theorem test_meets_BlockEndClassifies :
    active.scan.inFlight = none ∧ (withScan ⟨.closing, 0, 6, []⟩ active).scan.inFlight = some ⟨.closing, 0, 6, []⟩ ∧
    (let words : List (BitVec 16) := [BitVec.ofInt 16 (-400), 600, 0, 0, 0, 1]
     (withScan ⟨.opened, 0, 6, words⟩ active).scan.inFlight = some ⟨.opened, 0, 6, words⟩ ∧
       (active.settings.boom.low ≤ (words.getD 0 0).toInt ∧ (words.getD 0 0).toInt ≤ active.settings.boom.high) ∧
       (active.settings.tilt.low ≤ (words.getD 1 0).toInt ∧ (words.getD 1 0).toInt ≤ active.settings.tilt.high)) ∧
    ¬ (601 : Int) ≤ active.settings.boom.high ∧
    (let s : State := withScan ⟨.opened, 0, 5, []⟩ { active with scan := { active.scan with bad := 4 } }
     s.scan.fault = false ∧ (s.scan.fault || min (s.scan.bad + 1) 5 == 5) = true) ∧
    (∀ phase ∈ [Phase.loaded, .empty], ∀ held ∈ [none, some ⟨none, Quality.short⟩],
      let s : State := withPhase phase { active with
        scan := { active.scan with fault := true, good := 9 }
        weigh := { active.weigh with state := .blocked, held := held } }
      s.scan.fault = true ∧ (s.scan.fault && min (s.scan.good + 1) 10 != 10) = false ∧ s.weigh.state = .blocked) := by
  decide

theorem test_meets_WeighTimersExpire :
    (let s : State := { active with weigh := { active.weigh with state := .delaying, delayTimer := some (due 100) } }
     s.weigh.state = .delaying ∧ s.weigh.delayTimer = some (due 100) ∧ 100 ≤ (s.partTime - (due 100).start).toNat) ∧
    (let s : State := { active with weigh := { active.weigh with purpose := some .tare, tareRequest := some (due 30000) } }
     s.weigh.tareRequest = some (due 30000) ∧ 30000 ≤ (s.partTime - (due 30000).start).toNat ∧
       s.weigh.purpose = some .tare) := by decide

theorem test_meets_CaptureStartsAndSamples :
    (let s := withWeigh .armed (some .weigh) active
     s.weigh.state = .armed ∧ s.weigh.purpose ≠ none ∧ s.weigh.previousBoom = some 99 ∧ 99 < s.settings.windowStart ∧
       s.settings.windowStart ≤ 100 ∧ 0 < s.settings.captureDelay) ∧
    (let s := withWeigh .armed (some .weigh) { active with settings := { settings with captureDelay := 0 } }
     s.settings.captureDelay = 0 ∧ s.settings.windowStart ≤ 199 ∧ 199 < s.settings.windowStart + s.settings.windowWidth ∧
       ((⟨0, 0, -60⟩ : LoadReading).pitch.natAbs ≤ s.settings.pitchLimit)) ∧
    ¬ ((100 : Int) < active.settings.windowStart) ∧
    (∀ policy ∈ [ReweighPolicy.latest, .first],
      let s := withWeigh .held none { active with settings := { settings with policy := policy } }
      s.weigh.state = .held ∧ s.weigh.purpose = none ∧ s.settings.policy = policy) ∧
    (let s := withWeigh .delaying (some .weigh) active
     s.weigh.state = .delaying ∧ s.weigh.highestBoom = some 110) ∧
    { active.weigh with accepted := 65535 }.accepted = 65535 ∧ active.weigh.state = .idle ∧
    (let s := withWeigh .capturing (some .weigh) active
     s.weigh.state = .capturing ∧ s.weigh.highestBoom = some 110 ∧ ¬ (100 : Int) < 110 - 10 ∧ s.settings.windowStart ≤ 100 ∧
       100 < s.settings.windowStart + s.settings.windowWidth ∧ s.weigh.accepted < 65535 ∧ s.weigh.tilted < 65535 ∧
       s.settings.pitchLimit < (⟨0, 0, 61⟩ : LoadReading).pitch.natAbs) := by decide

theorem test_meets_CaptureStartsAndSamples_without_delay :
    ∀ held ∈ [none, some ⟨none, Quality.short⟩], ∀ retakes ∈ [0, 1], ∀ purpose ∈ [Purpose.weigh, .tare],
    let s := withWeigh .armed (some purpose) { active with
      settings := { settings with captureDelay := 0 }, weigh := { active.weigh with held := held, retakes := retakes } }
    s.weigh.state = .armed ∧ s.weigh.purpose = some purpose ∧ s.weigh.previousBoom = some 99 ∧ s.settings.captureDelay = 0 ∧
      99 < s.settings.windowStart ∧ s.settings.windowStart ≤ 100 ∧ 199 < s.settings.windowStart + s.settings.windowWidth ∧
      s.settings.windowStart + s.settings.windowWidth ≤ 200 ∧ s.settings.pitchLimit < (⟨0, 0, -61⟩ : LoadReading).pitch.natAbs ∧
      0 < s.settings.minSamples ∧ s.weigh.held = held ∧ s.weigh.retakes = retakes := by decide

theorem test_meets_AbortUsesARetake :
    (let s := withWeigh .capturing (some .weigh) active
     s.weigh.purpose = some .weigh ∧ s.weigh.state = .capturing ∧ s.weigh.highestBoom = some 110 ∧ (99 : Int) < 110 - 10 ∧
       s.weigh.held = none ∧ s.weigh.retakes = 0) ∧
    (withWeigh .delaying (some .weigh) active).weigh.state = .delaying ∧
    (withWeigh .capturing (some .tare) active).weigh.purpose = some .tare ∧
    0 < { active.weigh with retakes := 1 }.retakes ∧
    { active.weigh with held := some ⟨none, .short⟩ }.held = some ⟨none, .short⟩ := by decide

theorem test_meets_MassAndFillAreRounded : (6000 < settings.spanForce ∧ 0 < 1) ∧ 0 < 500 ∧ 0 < 160 ∧
    active.settings.materials[active.panel.material]? = some ⟨textOf ['S', 'T', 'D', ' '], 160⟩ := by decide

theorem test_meets_CaptureCompletes :
    (let s := withWeigh .capturing (some .weigh) active
     s.weigh.state = .capturing ∧ s.weigh.purpose = some .weigh ∧ s.weigh.highestBoom = some 110 ∧ ¬ (200 : Int) < 110 - 10 ∧
       s.settings.windowStart + s.settings.windowWidth ≤ 200 ∧ s.weigh.accepted < s.settings.minSamples) ∧
    (let s := withWeigh .capturing (some .tare) { active with weigh := { active.weigh with accepted := 4 } }
     s.weigh.purpose = some .tare ∧ s.settings.minSamples ≤ s.weigh.accepted ∧ 0 < s.weigh.accepted) ∧
    (withWeigh .capturing (some .tare) active).weigh.accepted < active.settings.minSamples := by decide

theorem test_meets_PhasesMoveAndCyclesCount :
    { active.scan with fault := true }.fault = true ∧ active.scan.fault = false ∧ active.cycle.phase = .empty ∧
      (withPhase .digging active).cycle.phase = .digging ∧ (withPhase .loaded active).cycle.phase = .loaded ∧
      (withPhase .dumping active).cycle.phase = .dumping ∧
      ((49 : Int) < active.settings.digHeight ∧ active.settings.digHeight + 20 ≤ 70 ∧ active.settings.carryTilt ≤ 150 ∧
        (149 : Int) < active.settings.carryTilt) ∧
      (-50 ≤ active.settings.dumpTilt ∧ (149 : Int) < active.settings.dumpHeight) := by decide

theorem test_counts_stay_at_their_limit : countUp 4294967294 = 4294967295 ∧ countUp 4294967295 = 4294967295 := by decide

theorem test_meets_DumpCreatesOnePass :
    (let s := withPhase .loaded active
     s.scan.fault = false ∧ s.cycle.phase = .loaded ∧ -50 ≤ s.settings.dumpTilt ∧ s.settings.dumpHeight ≤ 150 ∧
       s.cycle.passes.length ≤ 16 ∧ (s.weigh.held.getD ⟨none, .none⟩).mass = none) ∧
    ({ active.weigh with held := some ⟨some 10, .good⟩ }.held.getD ⟨none, .none⟩).mass ≠ none ∧
    (loading.trucks.pin.or loading.trucks.queue.head?).bind (fun n => (loading.trucks.find n).map fun e => (⟨n, e.epoch⟩ : Load)) =
      some ⟨9, 1⟩ := by decide

theorem test_meets_KeysAreDebouncedAndIgnored :
    (active.pins.keys.get .ack = false ∧ active.pins.keys.get .ack ≠ true ∧ State.reset.station = .reset ∧
      active.station ≠ .reset) ∧
    (let s := pressed .zero .up { active with panel := { active.panel with keys := (PerKey.all .up).set .shift (.down true) } }
     s.panel.debounce.get .zero = some (due 30) ∧ 30 ≤ (s.partTime - (due 30).start).toNat ∧ s.panel.keys.get .zero = .up ∧
       s.panel.keys.get .shift ≠ .up) ∧
    (face .halted).station.onFace = false := by decide

theorem test_meets_DispatchedPressActs :
    (∀ k : Key, let s := pressed k .up active
      s.panel.debounce.get k = some (due 30) ∧ 30 ≤ (s.partTime - (due 30).start).toNat ∧ s.panel.keys.get k = .up ∧
        (∀ j, j ≠ k → s.panel.keys.get j = .up) ∧ s.station.onFace = true ∧ s.trucks.queue = [] ∧
        s.cycle.phase = .empty ∧ s.weigh.state = .idle) ∧
    (loading.trucks.queue = [] ++ 9 :: [] ∧ 9 ∉ ([] : List Nat) ∧
      loading.trucks.pin.or loading.trucks.queue.head? = some 9) ∧
    (withPhase .digging active).cycle.phase ≠ .empty ∧ (withWeigh .held none active).weigh.state ≠ .idle := by
  refine ⟨fun k => ?_, by decide, by decide, by decide⟩
  cases k <;> refine ⟨by decide, by decide, by decide, fun j => ?_, by decide, by decide, by decide, by decide⟩ <;>
    cases j <;> decide

theorem test_meets_ReleaseActs :
    (let s := pressed .next (.down false) active
     s.panel.debounce.get .next = some (due 30) ∧ 30 ≤ (s.partTime - (due 30).start).toNat ∧
       s.panel.keys.get .next = .down false) ∧
    (pressed .shift (.down true) active).panel.keys.get .shift = .down true ∧
    (pressed .ack (.down true) active).panel.keys.get .ack = .down true ∧
    (∀ f : Frozen, let s : State := { active with panel := { active.panel with
        keys := active.panel.keys.set .ack (.down false), alerts := { active.panel.alerts with freeze := some f } } }
      s.panel.keys.get .ack = .down false ∧ s.panel.alerts.freeze = some f) ∧ active.panel.alerts.freeze = none :=
  ⟨by decide, by decide, by decide, fun _ => ⟨rfl, rfl⟩, rfl⟩

theorem test_meets_VoidMarksTheNewestPass :
    (active.station.onFace = true ∧ (∀ p ∈ active.cycle.passes, p.voided = true)) ∧
    (let p : PassRecord := ⟨1, 0, 40000, none, .none, none, 0, none, false⟩
     let s : State := { active with cycle := { active.cycle with passes := [] ++ p :: [{ p with voided := true }] } }
     s.cycle.passes = [] ++ p :: [{ p with voided := true }] ∧ p.voided = false ∧
       (∀ q ∈ [{ p with voided := true }], q.voided = true) ∧ 60000 ≤ (s.partTime - p.dumpedAt).toNat ∧
       (s.partTime - { p with dumpedAt := 40001 }.dumpedAt).toNat < 60000 ∧ (s.voidClaim none none).2 = true ∧
       (s.voidClaim none (some ⟨9, 1⟩)).2 = false) := by decide

theorem test_meets_ShiftResetStartsAShift :
    let s : State := { active with panel := { (pressed .shift (.down true) active).panel with shiftHold := some (due 3000) } }
    s.panel.keys.shift = .down true ∧ s.panel.shiftHold = some (due 3000) ∧
      3000 ≤ (s.partTime - (due 3000).start).toNat := by decide

theorem test_meets_SilentTruckIsLostThenClosed :
    (let s := withTrucks [truck 9 1 .spottedHere 3000] [9] active
     s.trucks.find 9 = some (truck 9 1 .spottedHere 3000) ∧ TruckState.spottedHere ≠ .lost ∧
       3000 ≤ (s.partTime - (truck 9 1 .spottedHere 3000).lastHeard).toNat) ∧
    (let s := withTrucks [truck 9 1 .lost 40000] [] active
     s.trucks.find 9 = some (truck 9 1 .lost 40000) ∧ (truck 9 1 .lost 40000).state = .lost ∧
       (truck 9 1 .lost 40000).lostSince = some 70000 ∧ 30000 ≤ (s.partTime - 70000).toNat ∧ s.tally.log.length ≤ 8 ∧
       (s.tally.records.filter fun r => r.truck == 9 && r.epoch == 1) = [] ∧
       (∀ r ∈ [ownRecord 9 3 2, { ownRecord 9 3 2 with contributor := 6, own := false }],
         let rs := (withRecords [r] s).tally.records.filter fun r => r.truck == 9 && r.epoch == 1
         rs ≠ [] ∧ rs.find? (·.own) = if r.own then some r else none)) := by decide

/-- A beacon of a truck, spotted at this station or nowhere. -/
def beacon (n epoch code : Nat) (spottedAt : List Nat) : TruckBeacon := ⟨n, 2, code, epoch, spottedAt, 100, none, []⟩

/-- A truck table without a pin is sound when the rest of it is. -/
theorem sound_without_pin (t : TruckTable) (pin : t.pin = none)
    (h : t.entries.length ≤ 16 ∧ (t.entries.map (·.truck)).Nodup ∧ t.queue.length ≤ 3 ∧ t.queue.Nodup ∧
      (∀ n ∈ t.queue, ∃ e ∈ t.entries, e.truck = n ∧ e.state = .spottedHere ∧ e.waitingSpot = false) ∧
      (∀ e ∈ t.entries, (e.state = .spottedHere → e.waitingSpot = true ∨ e.truck ∈ t.queue) ∧
        (e.waitingSpot = true → e.state = .spottedHere) ∧ (e.lostSince.isSome = true ↔ e.state = .lost))) : t.Sound :=
  ⟨h.1, h.2.1, h.2.2.1, h.2.2.2.1, h.2.2.2.2.1, h.2.2.2.2.2, fun n hn => by rw [pin] at hn; cases hn⟩

theorem test_sound_loading : loading.trucks.Sound := sound_without_pin _ rfl (by decide)

/-- A spot queue of one truck after another, with a waiting truck 9 and a lost truck 8. -/
def queued (queue : List Nat) : State :=
  withTrucks (queue.map (fun n => truck n 1 .spottedHere 0) ++
    [{ truck 9 1 .spottedHere 0 with waitingSpot := true }, truck 8 1 .lost 5000]) queue active

theorem test_sound_queued : (queued [1, 2, 3]).trucks.Sound ∧ (queued [1, 2]).trucks.Sound :=
  ⟨sound_without_pin _ rfl (by decide), sound_without_pin _ rfl (by decide)⟩

/-- Sixteen trucks, the first k of them lost. -/
def full (k : Nat) : State :=
  withTrucks ((List.range 16).map fun i => truck (i + 10) 1 (if i < k then .lost else .inbound) i) [] active

theorem test_sound_full : (full 0).trucks.Sound ∧ (full 2).trucks.Sound :=
  ⟨sound_without_pin _ rfl (by decide), sound_without_pin _ rfl (by decide)⟩

theorem test_meets_BeaconRefreshesTheEntry :
    (loading.trucks.find 9 = some (truck 9 1 .spottedHere 0) ∧
      (let b := beacon 9 2 1 []
       b.senderKind = 2 ∧ (1 ≤ b.truck ∧ b.truck ≤ 60) ∧ b.truck ≠ loading.settings.station ∧ b.epoch ≠ 0 ∧ b.code ≠ 0) ∧
      (beacon 9 2 1 []).epoch ≠ (truck 9 1 .spottedHere 0).epoch ∧
      (beacon 9 2 1 []).state 5 ≠ .spottedHere ∧ (beacon 9 2 1 []).echoes = [] ∧
      (beacon 9 1 1 []).epoch = (truck 9 1 .spottedHere 0).epoch) ∧
    ((beacon 9 1 2 [5]).state 5 = .spottedHere ∧ (beacon 8 1 2 [5]).state 5 = .spottedHere) ∧
    (∀ queue ∈ [[1, 2, 3], [1, 2]], ((queued queue).trucks.find 9).map (·.waitingSpot) = some true ∧
      ((queued queue).trucks.find 8).map (·.state) = some .lost) ∧
    ¬ (queued [1, 2, 3]).trucks.queue.length < 3 ∧ (queued [1, 2]).trucks.queue.length < 3 := by decide

theorem test_meets_NewcomerNeedsAPlace :
    (loading.trucks.find 8 = none ∧ (let b := beacon 8 1 2 [5]
       b.senderKind = 2 ∧ (1 ≤ b.truck ∧ b.truck ≤ 60) ∧ b.truck ≠ loading.settings.station ∧ b.epoch ≠ 0 ∧ b.code ≠ 0) ∧
      (beacon 8 1 2 [5]).echoes = [] ∧
      loading.trucks.entries.length < 16 ∧ loading.trucks.queue.length < 3 ∧ 3 ≤ (queued [1, 2, 3]).trucks.queue.length) ∧
    ((full 0).trucks.find 8 = none ∧ (full 0).trucks.entries.length = 16 ∧
       (∀ e ∈ (full 0).trucks.entries, e.state ≠ .lost) ∧
       truck 11 1 .lost 1 ∈ (full 2).trucks.entries ∧ (full 2).trucks.entries.length = 16 ∧
       (∀ x ∈ (full 2).trucks.entries, x.state = .lost → x ≠ truck 11 1 .lost 1 →
         (active.partTime - x.lastHeard).toNat < (active.partTime - (truck 11 1 .lost 1).lastHeard).toNat)) ∧
    ({ beacon 9 1 1 [] with senderKind := 1 }.senderKind ≠ 2 ∧ ¬ (1 ≤ (beacon 61 1 1 []).truck ∧ (beacon 61 1 1 []).truck ≤ 60) ∧
      (beacon 5 1 1 []).truck = active.settings.station ∧ (beacon 9 0 1 []).epoch = 0 ∧ (beacon 9 1 0 []).code = 0) := by
  decide +kernel

theorem test_meets_PileCreditAndVoid : (active.credit (some 65535) (some ⟨9, 1⟩)).2 = none := by decide

theorem test_meets_TruckCredit_of_a_closed_load :
    (∀ e, loading.trucks.find 8 = some e → e.epoch ≠ 1) ∧ ∀ e, loading.trucks.find 9 = some e → e.epoch ≠ 2 := by
  refine ⟨fun e h => ?_, fun e h => ?_⟩
  · exact absurd h (by rw [show loading.trucks.find 8 = none from rfl]; simp)
  · rw [show loading.trucks.find 9 = some (truck 9 1 .spottedHere 0) from rfl] at h
    cases h
    decide

theorem test_meets_TruckCredit :
    (loading.trucks.find 9 = some (truck 9 1 .spottedHere 0) ∧ (truck 9 1 .spottedHere 0).epoch = (⟨9, 1⟩ : Load).epoch ∧
      findRecord loading.tally.records loading.settings.station 9 1 = some (ownRecord 9 254 47) ∧
      (ownRecord 9 254 47).revision < 255 ∧ (ownRecord 9 254 47).passes < 48) ∧
    255 ≤ (ownRecord 9 255 0).revision ∧ 48 ≤ (ownRecord 9 1 48).passes ∧
    (let s := withTrucks [truck 9 1 .spottedHere 0] [9] active
     findRecord s.tally.records s.settings.station 9 1 = none ∧ s.tally.ownCount < 12) ∧
    (let s := withRecords ((List.range 12).map fun i => ownRecord (i + 20) 1 1) loading
     findRecord s.tally.records s.settings.station 9 1 = none ∧ 12 ≤ s.tally.ownCount) := by decide

theorem test_meets_TruckVoid :
    (loading.voidClaim (some 50) (some ⟨9, 1⟩)).2 = true ∧ (loading.voidClaim (some 51) (some ⟨9, 1⟩)).2 = false ∧
      findRecord loading.tally.records loading.settings.station 9 1 = some (ownRecord 9 254 47) := by
  decide +kernel

theorem test_weighed_void_keeps_unweighed_a_part_of_the_passes :
    ({ ownRecord 9 1 2 with unweighed := 2 }.withdrawn (some 50)).unweighed = 1 ∧
      ({ ownRecord 9 1 2 with unweighed := 1 }.withdrawn (some 50)).unweighed = 1 := by decide

theorem test_meets_HeldItemGoesByRevision :
    (let s := withRecords [{ ownRecord 9 7 1 with contributor := 6, own := false }, ownRecord 9 7 1] loading
     let i : Item := ⟨6, 6, 9, 1, 8, 48, 48, 65535⟩
     i.passesChecks s.settings.station = true ∧ s.trucks.find i.truck = some (truck 9 1 .spottedHere 0) ∧ i.epoch = 1 ∧
       i.contributor ≠ s.settings.station ∧
       findRecord s.tally.records 6 9 1 = some { ownRecord 9 7 1 with contributor := 6, own := false } ∧ 7 < i.revision ∧
       { i with revision := 7 }.revision ≤ 7 ∧ { i with contributor := 5 }.passesChecks s.settings.station = true ∧
       findRecord s.tally.records 5 9 1 = some (ownRecord 9 7 1)) := by decide

theorem test_meets_NewKeyNeedsAPlace :
    (let i : Item := ⟨6, 6, 9, 1, 1, 0, 0, 0⟩
     { i with sender := 5 }.passesChecks 5 = false ∧ { i with passes := 49 }.passesChecks 5 = false ∧
       (∀ e, active.trucks.find i.truck = some e → e.epoch ≠ i.epoch) ∧ i.passesChecks 5 = true ∧
       loading.trucks.find i.truck = some (truck 9 1 .spottedHere 0) ∧
       findRecord loading.tally.records 6 9 1 = none ∧ loading.tally.peerCount < 36 ∧
       36 ≤ (withRecords ((List.range 36).map fun k => { ownRecord 10 1 1 with contributor := k + 7, own := false })
         loading).tally.peerCount) ∧
    (let i : Item := ⟨6, 5, 9, 1, 1, 0, 0, 0⟩
     let s := withTrucks [truck 9 1 .spottedHere 0] [9] active
     i.passesChecks 5 = true ∧ findRecord s.tally.records 5 9 1 = none ∧ s.tally.ownCount < 12 ∧
       12 ≤ (withRecords ((List.range 12).map fun k => ownRecord (k + 20) 1 1) s).tally.ownCount) := by
  refine ⟨⟨by decide, by decide, fun e h => ?_, by decide, by decide, by decide, by decide, by decide⟩, by decide⟩
  exact absurd h (by rw [show active.trucks.find 9 = none from rfl]; simp)

theorem test_meets_RemainingAndOverload : loading.overload = false ∧
    (withRecords [{ ownRecord 9 1 1 with mass := 121 }] loading).overload = true := by decide

theorem test_meets_RosterHearsAndAges :
    (rosterFind [loader 7 .live 2500] 7 = some (loader 7 .live 2500) ∧ 2500 ≤ (active.partTime - (loader 7 .live 2500).lastHeard).toNat ∧
      rosterFind [loader 7 .quiet 6000] 7 = some (loader 7 .quiet 6000) ∧
      6000 ≤ (active.partTime - (loader 7 .quiet 6000).lastHeard).toNat ∧
      (loader 7 .lost 70000).lostSince = some 40000 ∧ 60000 ≤ (active.partTime - 40000).toNat) ∧
    (let full := fun k => (List.range 12).map fun i => loader (i + 10) (if i < k then .lost else .live) i
     rosterFind (full 0) 60 = none ∧ (full 0).length = 12 ∧ (∀ e ∈ full 0, e.state ≠ .lost) ∧
       loader 11 .lost 1 ∈ full 2 ∧ (∀ x ∈ full 2, x.state = .lost → x ≠ loader 11 .lost 1 →
         (active.partTime - x.lastHeard).toNat < (active.partTime - (loader 11 .lost 1).lastHeard).toNat) ∧
       rosterFind [] 1 = none ∧ ([] : List RosterEntry).length < 12) ∧ 7 ≠ active.settings.station ∧
    60 ≠ active.settings.station ∧ ¬ (1 ≤ 0 ∧ 0 ≤ 60) ∧ ¬ (1 ≤ 61 ∧ 61 ≤ 60) := by decide

theorem test_meets_BeaconIsBuilt :
    (let s : State := { active with channel := { active.channel with beaconTimer := some (due 500) } }
     s.station = .active ∧ s.channel.beaconTimer = some (due 500) ∧ 500 ≤ (s.partTime - (due 500).start).toNat) ∧
    (withRecords ((List.range 12).map fun i => ownRecord (i + 1) 1 1) active).tally.ownCount ≤ 12 ∧
    (withRecords ((List.range 7).map fun i => ownRecord (i + 1) 1 1) active).tally.ownCount = 7 := by decide

theorem test_meets_NoticeJoinsOrCoalesces :
    (let c := (withNotices ([notice 1] ++ notice 2 :: [notice 3]) active).channel
     c.notices = [notice 1] ++ notice 2 :: [notice 3] ∧ (notice 2).slot.truck = (notice 2).slot.truck ∧
       (∀ x ∈ [notice 1], ¬ (x.slot.truck = 2 ∧ x.slot.epoch = 1)) ∧ (∀ x ∈ [notice 3], ¬ (x.slot.truck = 2 ∧ x.slot.epoch = 1))) ∧
    (let ns := [notice 1, notice 2, notice 3]
     (∀ x ∈ ns, ¬ (x.slot.truck = 9 ∧ x.slot.epoch = 1)) ∧ ns.length < 4) ∧
    (let ns := notice 1 :: [notice 2, notice 3, notice 4]
     (∀ x ∈ ns, ¬ (x.slot.truck = 9 ∧ x.slot.epoch = 1)) ∧ ns.length = 4) := by decide

theorem test_meets_HoldOffHandsTheHead :
    (let s : State := withNotices [notice 9] { active with channel := { active.channel with holdOff := some (due 10) } }
     s.station = .active ∧ s.channel.holdOff = some (due 10) ∧ 10 ≤ (s.partTime - (due 10).start).toNat ∧
       s.channel.notices = notice 9 :: []) ∧
    (let p : BeaconPart := ⟨1, 1, 1, true, 0, []⟩
     let c : ChannelAccess := { active.channel with parts := [p] }
     c.notices = [] ∧ c.parts = p :: []) := by decide

theorem test_meets_CarrierIsWatched :
    (active.pins.cdIn = false ∧ active.station.onFace = true ∧ active.channel.frameOnLine = false) ∧
    ((face .halted).station.onFace = false ∧ (face .halted).pins.cdIn = false) ∧
    { active.channel with frameOnLine := true }.frameOnLine = true ∧ { active.pins with cdIn := true }.cdIn = true ∧
    (let s : State := { active with channel := { active.channel with carrierWatch := some (due 2000) } }
     s.channel.carrierWatch = some (due 2000) ∧ 2000 ≤ (s.partTime - (due 2000).start).toNat) := by decide

theorem test_meets_CharacterIsStoredOrLost :
    State.reset.link.receiveEnable = false ∧ (0b1111100011#10).getLsbD 0 = true ∧
    ¬ ({ active.link with awaitRest := true }.awaitRest = false ∨ (false != active.settings.rxdInverted) = true) ∧
    (active.link.receiveEnable = true ∧ (0b1111100010#10).getLsbD 0 = false ∧ active.link.awaitRest = false ∧
      (0b1111100010#10).getLsbD 9 = true ∧ active.link.fifo.length < 64 ∧
      (withFifo (List.replicate 64 ⟨0, false, false, false⟩) .hunting active).link.fifo.length = 64 ∧
      (withFifo (List.replicate 47 ⟨0, false, false, false⟩) .hunting active).link.fifo.length = 47) ∧
    (0b0111100010#10).getLsbD 9 = false := by decide

theorem test_meets_AssemblerTreatsAByte :
    (let x : RxByte := ⟨0xE0, false, false, false⟩
     let y : RxByte := ⟨0xF2, true, false, false⟩
     (withFifo (x :: y :: []) .escaped active).link.fifo = x :: y :: [] ∧ active.link.busy = false ∧
       (x.byte = endCharacter → AssemblerState.escaped = .hunting ∨ x.gap = true) ∧
       (y.byte = endCharacter → AssemblerState.inFrame = .hunting ∨ y.gap = true)) ∧
    (∀ sub ∈ [0, 1],
      let s : State := withFifo [⟨0x41, false, false, false⟩] .inFrame { active with subTime := sub, link := { active.link with
        lastArrival := some ⟨99996, 504⟩ } }
      s.link.fifo = [⟨0x41, false, false, false⟩] ∧ s.link.lastArrival = some ⟨99996, 504⟩ ∧
        (3 * s.rate.characterUnits < unitsBetween ⟨s.partTime, s.subTime⟩ ⟨99996, 504⟩ ↔ sub = 1)) ∧
    (let x : RxByte := ⟨endCharacter, false, false, false⟩
     let s := withFifo (x :: []) .inFrame active
     (withFifo (x :: []) .escaped active).link.assembler = .escaped ∧ s.link.fifo = x :: [] ∧ x.gap = false ∧
       s.link.assembler = .inFrame ∧ frameAccepted (s.link.broken || x.loss || x.ownSend) s.link.buffer = false) := by
  decide

/-- Header and payload of a frame sent under this station's own number. -/
def ownFrame : List Byte := Notice.frame 5 (notice 9)

theorem test_meets_OwnNumberSilencesTheStation :
    let s : State := withFifo [⟨endCharacter, false, false, false⟩] .inFrame
      { active with link := { active.link with buffer := ownFrame ++ checkBytes ownFrame } }
    s.link.busy = false ∧ s.link.fifo = ⟨endCharacter, false, false, false⟩ :: [] ∧ s.link.assembler = .inFrame ∧
      frameAccepted s.link.broken s.link.buffer = true ∧ byteAt s.link.buffer 2 = s.settings.station ∧
      s.station = .active ∧ (face .listen).station = .listen ∧ (face .silent).station = .silent := by decide +kernel

/-- A part whose assembler holds a whole frame of station 6 and finds the end character next. -/
def framed : State :=
  withFifo [⟨endCharacter, false, false, false⟩] .inFrame
    { active with link := { active.link with
        buffer := Notice.frame 6 (notice 9) ++ checkBytes (Notice.frame 6 (notice 9)) } }

theorem test_meets_AcceptedFramesAreTaken_first : framed.link.busy = false ∧
    framed.link.fifo = ⟨endCharacter, false, false, false⟩ :: [] ∧ framed.link.assembler = .inFrame ∧
      frameAccepted framed.link.broken framed.link.buffer = true := by decide +kernel

/-- A frame's header and payload, and its check behind them. -/
def checked (f : List Byte) : List Byte := f ++ checkBytes f

/-- A truck beacon of truck 6, spotted here, heard with an on-board payload. -/
def beaconFrame : List Byte :=
  header 1 6 2 0 32 ++ [0x82, 1, 5, 5] ++ bytesOf16 100 ++ bytesOf16 60 ++ List.replicate 24 (0 : Byte)

theorem test_frames_of_each_kind_pass_the_checks :
    frameAccepted false (checked beaconFrame) = true ∧ frameAccepted true (checked beaconFrame) = false ∧
      frameAccepted false (checked (BeaconPart.frame 6 ⟨0, 1, 1, true, 0, List.replicate 6 ⟨0, 0, 0, 0, 0, 0⟩⟩)) = true ∧
      frameAccepted false (checked (Notice.frame 6 (notice 9))) = true ∧
      (readTruckBeacon beaconFrame).spottedAt = [5] ∧ (readTruckBeacon beaconFrame).onBoard = some 60 := by decide +kernel

theorem test_meets_AcceptedFramesAreTaken :
    (active.station.onFace = true ∧ byteAt (Notice.frame 6 (notice 9)) 2 ≠ active.settings.station ∧
      byteAt (Notice.frame 6 (notice 9)) 1 = 3 ∧ byteAt (BeaconPart.frame 6 ⟨0, 1, 1, true, 0, []⟩) 1 = 2 ∧
      byteAt (header 1 6 2 0 32) 1 = 1) ∧
    (let s : State := { face .selfTest with startup := { State.reset.startup with expected := 2 } }
     s.station = .selfTest ∧ s.startup.expected < 3 ∧ { s.startup with expected := 3 }.expected = 3 ∧
       testFrame 5 2 ≠ testFrame 5 3) := by decide

theorem test_self_test_ends_in_LISTEN_with_the_carrier_watched :
    ∀ cdIn ∈ [true, false],
    let s : State := { face .selfTest with
      startup := { State.reset.startup with expected := 3 }, pins := { State.reset.pins with cdIn := cdIn } }
    (s.acceptFrame (testFrame 5 3)).station = .listen ∧
      (s.acceptFrame (testFrame 5 3)).channel.carrierWatch = if cdIn then some ⟨100000, 2000⟩ else none := by decide +kernel

/-- A received slot of truck 9, and one of padding: the padding is no item. -/
theorem test_padding_is_no_item :
    (partSlots (BeaconPart.frame 6 ⟨0, 1, 1, true, 0,
      ⟨9, 1, 2, 3, 1, 500⟩ :: List.replicate 5 ⟨0, 0, 0, 0, 0, 0⟩⟩)).filterMap (slotItem 6) =
        [⟨6, 6, 9, 1, 2, 3, 1, 500⟩] := by decide

theorem test_meets_GapDiscardsAndBlocksRelease :
    (let s : State := { withFifo [] .inFrame active with link := { active.link with
        assembler := .inFrame, lastArrival := some ⟨99997, 503⟩ }, subTime := 576 }
     s.link.assembler ≠ .hunting ∧ s.link.fifo = [] ∧
       3 * s.rate.characterUnits < unitsBetween ⟨s.partTime, s.subTime⟩ ⟨99997, 503⟩) ∧
    active.link.assembler = .hunting ∧ (withFifo [⟨0, false, false, false⟩] .inFrame active).link.fifo ≠ [] := by decide

theorem test_meets_CharacterSentGoesOn :
    (∀ k, k ≤ 1 → let s := sending k active
      s.link.transmitter = .sending ∧ s.link.onLine = some ⟨[0xF1, 0xF2], k⟩ ∧ s.link.charStart = some ⟨99998, 552⟩ ∧
        s.link.loopback = false ∧
        s.settings.rate.characterUnits ≤ unitsBetween ⟨s.partTime, s.subTime⟩ ⟨99998, 552⟩ ∧
        100 ≤ unitsBetween ⟨s.partTime, s.subTime⟩ ⟨99998, 552⟩ ∧ s.link.fifo.length < 64) ∧
      { active.link with loopback := true }.loopback = true ∧ { State.reset.startup with handed := 3 }.handed = 3 ∧
      0 + 1 < [(0xF1 : Byte), 0xF2].length ∧ [(0xF1 : Byte), 0xF2].length ≤ 1 + 1 ∧
      (active.link.transmitter ≠ .sending ∧ active.link.onLine = none) := by decide

theorem test_meets_StallBeginsAndEnds :
    (face .configRead).station.onFace = false ∧ active.station.onFace = true ∧
    (let s : State := { active with link := { active.link with transmitter := .held, stallTimer := some (due 500) } }
     s.link.transmitter = .held ∧ s.link.stallTimer = some (due 500) ∧ 500 ≤ (s.partTime - (due 500).start).toNat) := by decide

theorem test_meets_FrameEncoding :
    (let e : Slot := ⟨255, 255, 255, 255, 255, 65535⟩
     e.truck < 256 ∧ e.epoch < 256 ∧ e.revision < 256 ∧ e.passes < 256 ∧ e.unweighed < 256 ∧ e.mass < 65536) ∧
      (60 < 256 ∧ (⟨0, 1, 1, true, 60, List.replicate 6 ⟨0, 0, 0, 0, 0, 0⟩⟩ : BeaconPart).slots.length = 6) := by decide

theorem test_meets_SentFramesAssembleAgain :
    6 ≤ ownFrame.length ∧ byteAt ownFrame 0 = 1 ∧ payloadLength (frameKind ownFrame) = some 8 ∧ byteAt ownFrame 5 = 8 ∧
      ownFrame.length = 6 + 8 := by decide

/-- A panel with a transfer of field 3 behind it, whose acceptance timer expires now. -/
def shown (pending : Bool) : State :=
  { active with panel := { active.panel with
      fields := active.panel.fields.map fun c => { c with pending := pending }, transfer := some ⟨3, [], due 50⟩ } }

theorem test_meets_PanelTransfersEnd :
    active.panel.transfer = none ∧
    ((shown false).panel.transfer = some ⟨3, [], due 50⟩ ∧ (shown false).station ≠ .reset ∧ (shown false).panel.retryPause = none ∧
      (∀ c ∈ (shown false).panel.fields, c.pending = false)) ∧
    (∃ before after c, (shown true).panel.fields = before ++ c :: after ∧ c.pending = true ∧ ∀ d ∈ before, d.pending = false) ∧
    50 ≤ (active.partTime - (due 50).start).toNat ∧
    (let s : State := { active with panel := { active.panel with retryPause := some (due 1000) } }
     s.station ≠ .reset ∧ s.panel.retryPause = some (due 1000) ∧ 1000 ≤ (s.partTime - (due 1000).start).toNat ∧
       s.panel.transfer = none ∧ (s.panel.fields[0]?).map (·.pending) = some true) :=
  ⟨by decide, by decide, ⟨[], _, _, rfl, by decide, by decide⟩, by decide, by decide⟩

theorem test_meets_EventAlertsWaitForAck :
    (((active.raise .tare).panel.alerts.eventLatch .tare).latched = true ∧ ∃ t, exec .accept (active.raise .tare) = next t) ∧
      active.station ≠ .halted ∧ active.panel.alerts.freeze = none ∧
      fieldText (active.raise .tare) 1 = textOf ['T', 'A', 'R', 'E', ' ', ' ', ' ', ' '] ∧
      (active.raise .tare).settle.panel.lineAlert = .shown (.event .tare) ∧ active.panel.lineAlert = .noneShown ∧
      (active.panel.fields[1]?).map (·.text) = some (List.replicate 8 0x20) :=
  ⟨⟨by decide, _, rfl⟩, by decide, by decide, by decide, by decide +kernel, by decide, by decide⟩

/-- A part on the face with trucks, records, loaders, notices and a capture, everything handed. -/
def busyFace : State :=
  (withRoster [loader 7 .live 0] (withNotices [notice 9] (withWeigh .capturing (some .weigh) loading))).settle

theorem test_meets_StepKeepsBounds :
    (busyFace.LinkBounded ∧ busyFace.QueueBounded ∧ busyFace.RosterBounded ∧ busyFace.scan.Bounded ∧ busyFace.panel.Shaped ∧
      busyFace.cycle.Sound ∧ busyFace.cycle.Numbered ∧ busyFace.cycle.cycles < 4294967295 ∧ busyFace.subTime < 576 ∧
      busyFace.EmptyOffFace ∧ busyFace.OwnNotInRoster) ∧
    ∃ t, step { busyFace with pending := [.scanTimerExpiry] } = next t := ⟨by decide +kernel, _, rfl⟩

theorem test_meets_StepKeepsTheTruckTable : busyFace.trucks.Sound := sound_without_pin _ rfl (by decide +kernel)

theorem test_meets_StepKeepsRecordsOpen :
    busyFace.trucks.Sound ∧ busyFace.tally.Bounded ∧ busyFace.RecordsOpen ∧ ownRecord 9 254 47 ∈ busyFace.tally.records :=
  ⟨sound_without_pin _ rfl (by decide +kernel), by decide +kernel⟩

theorem test_meets_StepKeepsTheModes : busyFace.EmptyOffFace ∧ busyFace.LinkFollowsStation ∧ busyFace.QueueOnlyActive := by
  decide +kernel

theorem test_meets_StepKeepsTheWeighUnit : busyFace.WeighFollows ∧ busyFace.ZeroBelowSpan :=
  ⟨⟨⟨by decide +kernel, by decide +kernel, by decide +kernel⟩, by decide +kernel, by decide +kernel, by decide +kernel⟩, by decide +kernel⟩

theorem test_meets_StepKeepsConditionsReported :
    busyFace.EmptyOffFace ∧ busyFace.ConditionsReported ∧ busyFace.OverloadReported := by decide +kernel

/-- A part loading truck 9, whose target is 1 t, beside loader 7, with a total the test gives. -/
def shows (total : Nat) (partner : List RosterEntry) : State :=
  withRoster partner (withRecords [{ ownRecord 9 1 3 with mass := total }]
    (withTrucks [{ truck 9 1 .spottedHere 0 with spottedAt := [5, 7] }] [9] active))

theorem test_meets_StepKeepsTheDisplayCurrent :
    active.settle.DisplayCurrent ∧
    (∀ total ∈ [99, 100, 109, 110], let s := shows total []
      s.trucks.pin.or s.trucks.queue.head? = some 9 ∧ (s.trucks.find 9).map (·.target) = some 100 ∧
        ((s.tally.records.filter fun r => r.truck == 9 && r.epoch == 1).map (·.mass)).sum = total) ∧
    (rosterFind (shows 1 [loader 7 .live 0]).roster 7).map (·.state) = some .live ∧
    (rosterFind (shows 1 [loader 7 .quiet 0]).roster 7).map (·.state) = some .quiet ∧
    (let p : PassRecord := ⟨1, 0, 0, none, .none, none, 0, none, true⟩
     { active.cycle with passes := [] ++ [p] }.passes = [] ++ [p] ∧ active.weigh.held = none ∧ active.cycle.passes = []) := by
  decide +kernel

theorem test_texts_of_the_receiving_truck :
    fieldText (shows 99 []) 8 = textOf ['+', '0', '.', '0', ' ', ' ', ' ', ' '] ∧
      fieldText (shows 110 []) 8 = textOf ['-', '0', '.', '1', ' ', ' ', ' ', ' '] ∧
      fieldText (shows 110 [loader 7 .live 0]) 10 = textOf ['7', '*', ' ', ' ', ' ', ' ', ' ', ' '] ∧
      fieldText (shows 110 []) 9 = textOf ['3', '/', '3', ' ', ' ', ' ', ' ', ' '] := by decide +kernel

theorem test_meets_StepKeepsTransfersRunning :
    (busyFace.TransfersRun ∧ busyFace.HoldOffRuns) ∧
    -- a hold-off that starts behind one LIVE loader with a lower number, and one that runs
    (let s : State := withNotices [notice 9] (withRoster [loader 3 .live 0] { active with pins := { active.pins with cdIn := true } })
     s.channel.holdOff = none ∧ (after .carrierFall s).map (·.channel.holdOff) = some (some ⟨100000, 14⟩)) ∧
    busyFace.channel.holdOff.isSome = true ∧
    -- a transfer in flight, a field pending, an idle panel whose texts are handed
    (busyFace.panel.transfer.isSome = true ∧ busyFace.station ≠ .reset ∧ active.panel.transfer = none ∧
      active.panel.retryPause = none ∧ (active.panel.fields[0]?).map (·.pending) = some true) := by decide +kernel

end Sys2Proof.Tests
end

section
/-! Load contributions and truck totals: pile passes, and matched items whose key is held (chapter 2). -/

namespace Sys2Proof.Machine

variable (s : State)

/-! ## Pile passes in the shift totals -/

@[simp] theorem ShiftTotals.addPile_some (t : ShiftTotals) (x : Nat) :
    t.addPile (some x) = { t with
      pilePasses := min (t.pilePasses + 1) 4294967295, pileMass := min (t.pileMass + x) 4294967295 } := rfl

@[simp] theorem ShiftTotals.addPile_none (t : ShiftTotals) :
    t.addPile none = { t with
      pilePasses := min (t.pilePasses + 1) 4294967295, unweighed := min (t.unweighed + 1) 4294967295 } := rfl

@[simp] theorem ShiftTotals.voidPile_some (t : ShiftTotals) (x : Nat) :
    t.voidPile (some x) = { t with pilePasses := t.pilePasses - 1, pileMass := t.pileMass - x } := rfl

@[simp] theorem ShiftTotals.voidPile_none (t : ShiftTotals) :
    t.voidPile none = { t with pilePasses := t.pilePasses - 1, unweighed := t.unweighed - 1 } := rfl

@[simp] theorem State.credit_none (m : Option Nat) : s.credit m none = (s.creditPile m, none) := rfl

@[simp] theorem State.voidClaim_none (m : Option Nat) :
    s.voidClaim m none = ({ s with tally := { s.tally with shift := s.tally.shift.voidPile m } }, true) := rfl

/-- The ways to the pile: no truck or a load that is not open (R30, R31, R45), or a limit met, which raises TABLE
(R32). -/
theorem State.credit_of_answer_pile {m : Option Nat} {l : Option Load} (h : (s.credit m l).2 = none) :
    (s.credit m l).1 = s.creditPile m ∨ (s.credit m l).1 = s.refuseCredit m := by
  unfold State.credit at h ⊢
  split
  case h_1 => exact .inl rfl
  case h_2 l =>
    dsimp only at h
    split
    case h_1 => exact .inl rfl
    case h_2 e he =>
      simp only [he] at h
      split
      case isTrue => exact .inl rfl
      case isFalse hopen =>
        rw [if_neg hopen] at h
        split
        case h_1 r hr =>
          split
          case isTrue => exact .inr rfl
          case isFalse hlimit => simp [hr, hlimit] at h
        case h_2 hr =>
          split
          case isTrue => exact .inr rfl
          case isFalse hfull => simp [hr, hfull] at h

/-- Settles O30: a credit answered with the pile is `creditPile` or `refuseCredit`, and both count it alike. -/
theorem pileCreditAndVoid : Obligations.PileCreditAndVoid := by
  refine ⟨⟨fun m s => by rw [s.credit_none], fun m l s h => ?_⟩, fun m s => ?_⟩
  · obtain hpile | hrefused := s.credit_of_answer_pile h
    · rw [hpile]
      cases m <;> simp
    · rw [hrefused]
      cases m <;> simp
  · rw [s.voidClaim_none]
    cases m <;> simp

/-! ## Matched items whose key is held -/

/-- What a notice does to channel access: it joins the queue in ACTIVE only (R35). -/
theorem State.handNotice_channel (r : Contribution) :
    (s.handNotice r).channel =
      if s.station = .active then s.channel.queueNotice ⟨r.slot, s.channel.beaconSequence⟩ else s.channel := by
  unfold State.handNotice
  split <;> rfl

section
variable {s} {i : Item} {r : Contribution}

/-- Past the checks and with its load open, an item goes to adoption or to the peer's record by its contributor (R25,
R26). -/
theorem State.mergeItem_of_matched {e : TruckEntry} (hcheck : i.passesChecks s.settings.station = true)
    (hfind : s.trucks.find i.truck = some e) (hepoch : e.epoch = i.epoch) :
    s.mergeItem i = if i.contributor = s.settings.station then s.adopt i else s.mergePeer i := by
  simp [State.mergeItem, hcheck, hfind, hepoch]

theorem State.mergePeer_of_held (hheld : findRecord s.tally.records i.contributor i.truck i.epoch = some r) :
    s.mergePeer i =
      if r.revision < i.revision then
        (s.withRecords (updateRecord s.tally.records i.contributor i.truck i.epoch (·.replaced i))).evalOverload
      else s := by
  simp [State.mergePeer, hheld]

theorem State.adopt_of_held (hheld : findRecord s.tally.records i.contributor i.truck i.epoch = some r) :
    s.adopt i =
      if r.revision < i.revision then
        ((s.withRecords (updateRecord s.tally.records i.contributor i.truck i.epoch (·.replaced i))).handNotice
          (r.replaced i)).evalOverload
      else s := by
  simp [State.adopt, hheld]

/-- The key of the record found is the key looked for (R23). -/
theorem findRecord_key {rs : List Contribution} {contributor truck epoch : Nat}
    (hheld : findRecord rs contributor truck epoch = some r) :
    r.contributor = contributor ∧ r.truck = truck ∧ r.epoch = epoch := by
  simpa [Contribution.hasKey, and_assoc] using List.find?_some hheld

/-- A held record that takes an item's values has the item's slot: its truck and epoch are the item's already. -/
theorem Contribution.slot_replaced_of_held
    (hheld : findRecord s.tally.records i.contributor i.truck i.epoch = some r) :
    (r.replaced i).slot = ⟨i.truck, i.epoch, i.revision, i.passes, i.unweighed, i.mass⟩ := by
  obtain ⟨-, htruck, hepoch⟩ := findRecord_key hheld
  simp [Contribution.slot, Contribution.replaced, htruck, hepoch]

end

/-- Settles O33: past the checks, both the peer's merge and the adoption turn on the revisions compared alone; the
notice's slot is the item's because the record found has the item's key. -/
theorem heldItemGoesByRevision : Obligations.HeldItemGoesByRevision := by
  constructor
  · intro i e r s hcheck hfind hepoch hpeer hheld
    have hmerge := State.mergeItem_of_matched hcheck hfind hepoch
    rw [if_neg hpeer, State.mergePeer_of_held hheld] at hmerge
    constructor
    · intro hgreater
      rw [hmerge, if_pos hgreater]
      exact ⟨rfl, rfl, rfl⟩
    · intro hle
      rw [hmerge, if_neg hle.not_gt]
  · intro i e r s hcheck hfind hepoch hown hheld
    have hmerge := State.mergeItem_of_matched hcheck hfind hepoch
    rw [if_pos hown, State.adopt_of_held hheld] at hmerge
    constructor
    · intro hgreater
      rw [hmerge, if_pos hgreater]
      refine ⟨by simp [Contribution.replaced], ?_, by simp⟩
      simp [State.handNotice_channel, Contribution.slot_replaced_of_held hheld]
    · intro hle
      rw [hmerge, if_neg hle.not_gt]

end Sys2Proof.Machine
end

section
/-! The scan port (chapter 6): what the scan timer's expiry does, what any other command can make of the scan port, and
the two statements on the request and on the scan timer's spacing that follow. -/

namespace Sys2Proof.Machine

variable {s t u : State}

/-! ## Counts and flag leave the timer and the scan in flight -/

@[simp] theorem ScanPort.judge_count_timer (p : ScanPort) (usable : Bool) :
    (p.count usable).judge.timer = p.timer := by
  unfold ScanPort.count ScanPort.judge
  (repeat' split) <;> rfl

@[simp] theorem ScanPort.judge_count_inFlight (p : ScanPort) (usable : Bool) :
    (p.count usable).judge.inFlight = p.inFlight := by
  unfold ScanPort.count ScanPort.judge
  (repeat' split) <;> rfl

/-- Of a scan handed on, the scan port keeps its own counts and flag only; no block behind it writes to the port (R118). -/
@[simp] theorem State.handOn_scan (s : State) (c : Scan) : (s.handOn c).scan = (s.scan.count c.isUsable).judge := by
  simp [State.handOn]

/-! ## SCN_REQ -/

/-- SCN_REQ is active exactly while a scan in flight is OPEN (chapter 6.1). -/
theorem State.scnReq_iff (s : State) : s.scnReq = true ↔ ∃ f, s.scan.inFlight = some f ∧ f.condition = .opened := by
  unfold State.scnReq
  split
  case h_1 hnone => simp [hnone]
  case h_2 f hsome => simp [hsome]

/-- The timeout of an OPEN scan falls 8 ms after its request (R110). -/
theorem State.scanTimeoutDue_of_opened {f : ScanInFlight} (hflight : s.scan.inFlight = some f)
    (hopened : f.condition = .opened) :
    s.scanTimeoutDue = true ↔ 8 ≤ elapsed s.partTime f.requestedAt := by
  simp [State.scanTimeoutDue, hflight, hopened]

/-! ## The scan timer's expiry (R105, R106) -/

theorem State.scanTimerDue_of_elapsed {tm : Timer} (hface : s.station.onFace = true)
    (htimer : s.scan.timer = some tm) (hrun : tm.run ≤ elapsed s.partTime tm.start) :
    s.scanTimerDue = true := by
  simp [State.scanTimerDue, hface, htimer, hrun]

/-- An expiry with no scan in flight issues a request (R107). -/
theorem exec_scanTimerExpiry_of_none (hdue : s.scanTimerDue = true) (hflight : s.scan.inFlight = none) :
    exec .scanTimerExpiry s = .next { s with scan := { s.scan with
      timer := nextPeriod s.scan.timer, inFlight := some (newRequest s.partTime) } } := by
  simp [exec, execScanTimerExpiry, hdue, hflight, State.withInFlight]

/-- An expiry beside a scan in flight skips its slot (R106). -/
theorem exec_scanTimerExpiry_of_some {f : ScanInFlight} (hdue : s.scanTimerDue = true)
    (hflight : s.scan.inFlight = some f) :
    exec .scanTimerExpiry s = .next
      (State.handOn { s with scan := { s.scan with timer := nextPeriod s.scan.timer } } .notUsable) := by
  simp [exec, execScanTimerExpiry, hdue, hflight]

/-- Request or skipped slot, a due expiry starts the next run where the last one ended (R105). -/
theorem exec_scanTimerExpiry_timer (hdue : s.scanTimerDue = true) (h : exec .scanTimerExpiry s = .next t) :
    t.scan.timer = nextPeriod s.scan.timer := by
  cases hflight : s.scan.inFlight with
  | none =>
    cases (exec_scanTimerExpiry_of_none hdue hflight).symm.trans h
    rfl
  | some f =>
    cases (exec_scanTimerExpiry_of_some hdue hflight).symm.trans h
    simp

/-! ## Entering LISTEN -/

/-- The entry to LISTEN starts the scan timer and leaves the rest of the scan port (R105, R179). -/
theorem State.enterListen_scan (s : State) :
    s.enterListen.scan = { s.scan with timer := s.timer s.settings.scanPeriod } := by
  unfold State.enterListen
  dsimp only
  split <;> rfl

theorem State.enterListen_station (s : State) : s.enterListen.station = .listen := by
  unfold State.enterListen
  dsimp only
  split <;> rfl

theorem State.compareTestFrame_scan (s : State) (f : List Byte) :
    (s.compareTestFrame f).scan = s.scan ∨ (s.compareTestFrame f).scan = s.enterListen.scan := by
  unfold State.compareTestFrame
  split
  case isTrue =>
    split
    case isTrue => exact .inr rfl
    case isFalse => exact .inl rfl
  case isFalse => exact .inl rfl

/-- An accepted frame reaches the scan port through the entry to LISTEN alone, which the self-test makes (R178, R179). -/
theorem State.acceptFrame_scan (s : State) (f : List Byte) :
    (s.acceptFrame f).scan = s.scan ∨
      s.station = .selfTest ∧ (s.acceptFrame f).scan = { s.scan with timer := s.timer s.settings.scanPeriod } := by
  unfold State.acceptFrame
  dsimp only
  split
  case isTrue hself =>
    rw [State.settle_scan]
    obtain hkept | hlisten := s.becomeBusy.compareTestFrame_scan f
    · exact .inl hkept
    · exact .inr ⟨hself, hlisten.trans (State.enterListen_scan _)⟩
  case isFalse =>
    split
    case isTrue => exact .inl (by simp)
    case isFalse => exact .inl rfl

/-! ## What a command other than the scan timer's expiry can make of the scan port -/

/-- The scan port after a command other than the scan timer's expiry, one case for each way it is moved (chapter 6, R105,
R171). -/
inductive ScanMove (s : State) : Instr → ScanPort → Prop where
  /-- The command leaves the scan port as it is. -/
  | kept (c : Instr) : ScanMove s c s.scan
  /-- A device reset. -/
  | reset (cause : ResetCause) : ScanMove s (.deviceReset cause) State.reset.scan
  /-- The byte that completes test frame 3 has LISTEN entered. -/
  | listen (hself : s.station = .selfTest) :
    ScanMove s .assemblerTakesByte { s.scan with timer := s.timer s.settings.scanPeriod }
  /-- A word of an OPEN scan. -/
  | word (w : BitVec 16) (f : ScanInFlight) (hflight : s.scan.inFlight = some f) (hopened : f.condition = .opened) :
    ScanMove s (.wordReady w) { s.scan with inFlight := some (f.addWord w) }
  /-- The block end of an OPEN scan, which is counted by its class. -/
  | ended (f : ScanInFlight) (hflight : s.scan.inFlight = some f) (hopened : f.condition = .opened) :
    ScanMove s .blockEnd
      ((ScanPort.count { s.scan with inFlight := none } (f.outcome s.settings).isUsable).judge)
  /-- The block end of a CLOSING scan. -/
  | closed (f : ScanInFlight) (hflight : s.scan.inFlight = some f) (hclosing : f.condition = .closing) :
    ScanMove s .blockEnd { s.scan with inFlight := none }
  /-- The timeout of an OPEN scan, which becomes CLOSING and counts as not usable. -/
  | timeout (f : ScanInFlight) (hdue : s.scanTimeoutDue = true) (hflight : s.scan.inFlight = some f) :
    ScanMove s .scanTimeout
      ((ScanPort.count { s.scan with inFlight := some { f with condition := .closing } } false).judge)

/-- A command that leaves the scan port in the state it answers. -/
theorem ScanMove.of_taken {c : Instr} (h : Taken u = .next t) (hkept : u.scan = s.scan) : ScanMove s c t.scan := by
  cases h
  exact hkept ▸ .kept c

/-- A command that acts on a condition, without the scan port, and leaves the state as it is otherwise. -/
theorem ScanMove.of_ite {c : Instr} {p : Prop} [Decidable p] (h : (if p then Taken u else Taken s) = .next t)
    (hkept : u.scan = s.scan) : ScanMove s c t.scan := by
  by_cases hp : p
  · exact .of_taken ((if_pos hp).symm.trans h) hkept
  · exact .of_taken ((if_neg hp).symm.trans h) rfl

theorem execDeviceReset_scanMove {cause : ResetCause} (h : execDeviceReset cause s = .next t) :
    ScanMove s (.deviceReset cause) t.scan := by
  unfold execDeviceReset at h
  split at h
  case isTrue =>
    cases h
    exact .reset cause
  case isFalse => exact .of_taken h rfl

theorem execWordReady_scanMove {w : BitVec 16} (h : execWordReady w s = .next t) :
    ScanMove s (.wordReady w) t.scan := by
  unfold execWordReady at h
  split at h
  case h_1 => exact .of_taken h rfl
  case h_2 f hflight =>
    split at h
    case h_1 hopened =>
      cases h
      exact .word w f hflight hopened
    case h_2 => exact .of_taken h rfl

theorem execBlockEnd_scanMove (h : execBlockEnd s = .next t) : ScanMove s .blockEnd t.scan := by
  unfold execBlockEnd at h
  split at h
  case h_1 => exact .of_taken h rfl
  case h_2 f hflight =>
    split at h
    case h_1 hopened =>
      cases h
      exact State.handOn_scan _ (f.outcome s.settings) ▸ .ended f hflight hopened
    case h_2 hclosing =>
      cases h
      exact .closed f hflight hclosing

theorem execScanTimeout_scanMove (h : execScanTimeout s = .next t) : ScanMove s .scanTimeout t.scan := by
  unfold execScanTimeout at h
  split at h
  case isTrue hdue =>
    split at h
    case h_1 => exact .of_taken h rfl
    case h_2 f hflight =>
      cases h
      exact State.handOn_scan _ .notUsable ▸ .timeout f hdue hflight
  case isFalse => exact .of_taken h rfl

theorem execAssemblerTakesByte_scanMove (h : execAssemblerTakesByte s = .next t) :
    ScanMove s .assemblerTakesByte t.scan := by
  unfold execAssemblerTakesByte at h
  split at h
  case isTrue => exact .of_taken h rfl
  case isFalse =>
    split at h
    case h_1 => exact .of_taken h rfl
    case h_2 =>
      split at h
      case h_1 => exact .of_taken h (by simp)
      case h_2 l f _ =>
        cases h
        obtain hkept | ⟨hself, hlisten⟩ := State.acceptFrame_scan { s with link := l } f
        · exact .of_taken rfl hkept
        · exact hlisten ▸ .listen hself

/-- Each command but the scan timer's expiry moves the scan port in one of the ways of `ScanMove`. -/
theorem exec_scanMove {c : Instr} (hc : c ≠ .scanTimerExpiry) (h : exec c s = .next t) : ScanMove s c t.scan := by
  cases c with
  -- the commands that reach the scan port
  | scanTimerExpiry => exact absurd rfl hc
  | deviceReset => exact execDeviceReset_scanMove h
  | wordReady => exact execWordReady_scanMove h
  | blockEnd => exact execBlockEnd_scanMove h
  | scanTimeout => exact execScanTimeout_scanMove h
  | assemblerTakesByte => exact execAssemblerTakesByte_scanMove h
  -- an effect elsewhere under one condition, or nothing
  | resetRelease | partTimeWrap | configStatusByte | configReadComplete | readTimerExpiry | selfTestTimerExpiry
  | joinTimerExpiry | delayTimerExpiry | truckAgingExpiry | rosterQuietExpiry | rosterLostExpiry
  | rosterRemovalExpiry | beaconTimerExpiry | carrierWatchExpiry | stallTimerExpiry | acceptanceTimerExpiry
  | retryPauseExpiry | shiftHoldExpiry => exact .of_ite h (by simp)
  -- an effect elsewhere, always
  | gapTimeout | frameTakenByBlocks => exact .of_taken h (by simp)
  -- more branches, none of which reaches the scan port
  | tareRequestExpiry | lostHoldEnd | holdOffExpiry | carrierRise | carrierFall | characterReceived | characterSent
  | csInActive | accept | keyInputChange | keyDebounceExpiry =>
    simp only [exec, execTareRequestExpiry, execLostHoldEnd, execHoldOffExpiry, execCarrierRise, execCarrierFall,
      execCharacterReceived, execCharacterSent, execCsInActive, execAccept, execKeyInputChange,
      execKeyDebounceExpiry] at h
    (repeat' split at h) <;> exact .of_taken h (by simp)

/-- No move issues a request: where SCN_REQ is active after one, it was active before, for the same request (R107). -/
theorem ScanMove.request_kept {c : Instr} (hmove : ScanMove s c t.scan) (hreq : t.scnReq = true) :
    s.scnReq = true ∧ t.scan.inFlight.map (·.requestedAt) = s.scan.inFlight.map (·.requestedAt) := by
  rw [State.scnReq_iff] at hreq ⊢
  generalize t.scan = p at hmove hreq ⊢
  cases hmove with
  | kept | listen => exact ⟨hreq, rfl⟩
  | word w f hflight hopened => exact ⟨⟨f, hflight, hopened⟩, by simp [hflight, ScanInFlight.addWord]⟩
  | reset | ended | closed | timeout => simp [State.reset] at hreq

/-- On the face no other command but a device reset moves the scan timer: LISTEN is entered from SELF_TEST only
(R105). -/
theorem ScanMove.timer_kept {c : Instr} {p : ScanPort} (hmove : ScanMove s c p) (hface : s.station.onFace = true)
    (hreset : ∀ cause, c ≠ .deviceReset cause) : p.timer = s.scan.timer := by
  cases hmove with
  | kept | word | closed => rfl
  | ended | timeout => simp
  | reset cause => exact absurd rfl (hreset cause)
  | listen hself => simp [hself, StationState.onFace] at hface

/-! ## The statements -/

/-- Settles O10: the request is the due expiry's with no scan in flight, and no `ScanMove` makes SCN_REQ active. -/
theorem requestOnlyAtScanExpiry : Obligations.RequestOnlyAtScanExpiry := by
  refine ⟨fun tm s hface htimer hrun hnone => ?_, fun s => s.scnReq_iff, fun c s t hc h => ?_⟩
  · have hexec := exec_scanTimerExpiry_of_none (State.scanTimerDue_of_elapsed hface htimer hrun) hnone
    rw [htimer] at hexec
    refine ⟨_, hexec, rfl, rfl, fun u hscan => ?_⟩
    exact State.scanTimeoutDue_of_opened (by rw [hscan]) rfl
  · exact (exec_scanMove hc h).request_kept

/-- Settles O11: the entry to LISTEN starts the timer, a due expiry starts the next run, and no `ScanMove` on the face
but a device reset touches it. -/
theorem scanTimerKeepsItsSpacing : Obligations.ScanTimerKeepsItsSpacing := by
  refine ⟨fun s => ⟨?_, s.enterListen_station⟩, fun tm s t hface htimer hrun h => ?_, fun c s t hface h hc hreset => ?_⟩
  · rw [s.enterListen_scan]
    rfl
  · rw [exec_scanTimerExpiry_timer (State.scanTimerDue_of_elapsed hface htimer hrun) h, htimer]
    rfl
  · exact (exec_scanMove hc h).timer_kept hface hreset

end Sys2Proof.Machine
end


section
/-! What a command can do: one case for each way the model's commands act, and what a step can do. Every invariant and
every statement about all commands is a case split over these. -/

namespace Sys2Proof.Machine

/-- What a command makes of a state: nothing, or one of the ways it acts, with the conditions it acts under. -/
inductive Effect (s : State) : Instr → State → Prop where
  | kept (c : Instr) : Effect s c s
  | reset (cause : ResetCause) (hresets : resets cause = true) : Effect s (.deviceReset cause) s.held
  | release (hreset : s.station = .reset) : Effect s .resetRelease s.released.settle
  | wrap (hlast : s.partTime = 4294967295#32) (hrun : s.station ≠ .reset) :
    Effect s .partTimeWrap { s with partTime := 0, subTime := 0 }
  | readCommand (b : Byte) (hstation : s.station = .configRead) (hread : s.startup.read = .polling)
    (hready : b.getLsbD 0 = false) :
    Effect s (.configStatusByte b) { s with startup := { s.startup with read := .reading } }
  | image (m : Image) (hstation : s.station = .configRead) (hread : s.startup.read = .reading) :
    Effect s (.configReadComplete m)
      (State.validate
        { s with startup := { s.startup with image := some m, read := .stopped, readTimer := none } } m).settle
  | readEnd (hdue : s.readTimerDue = true) : Effect s .readTimerExpiry (s.enterHalted .config).settle
  | selfTestEnd (hdue : s.selfTestTimerDue = true) : Effect s .selfTestTimerExpiry (s.enterHalted .linktest).settle
  | joined (hdue : s.joinTimerDue = true) : Effect s .joinTimerExpiry s.enterActive.settle
  | request (hdue : s.scanTimerDue = true) (hflight : s.scan.inFlight = none) :
    Effect s .scanTimerExpiry { s with scan := { s.scan with
      timer := nextPeriod s.scan.timer, inFlight := some (newRequest s.partTime) } }
  | skipped (f : ScanInFlight) (hdue : s.scanTimerDue = true) (hflight : s.scan.inFlight = some f) :
    Effect s .scanTimerExpiry
      (State.handOn { s with scan := { s.scan with timer := nextPeriod s.scan.timer } } .notUsable)
  | word (w : BitVec 16) (f : ScanInFlight) (hflight : s.scan.inFlight = some f) (hopened : f.condition = .opened) :
    Effect s (.wordReady w) (s.withInFlight (some (f.addWord w)))
  | scanEnd (f : ScanInFlight) (hflight : s.scan.inFlight = some f) (hopened : f.condition = .opened) :
    Effect s .blockEnd ((s.withInFlight none).handOn (f.outcome s.settings))
  | closed (f : ScanInFlight) (hflight : s.scan.inFlight = some f) (hclosing : f.condition = .closing) :
    Effect s .blockEnd (s.withInFlight none)
  | timeout (f : ScanInFlight) (hdue : s.scanTimeoutDue = true) (hflight : s.scan.inFlight = some f) :
    Effect s .scanTimeout ((s.withInFlight (some { f with condition := .closing })).handOn .notUsable)
  | delayEnd (hdue : s.delayTimerDue = true) :
    Effect s .delayTimerExpiry { s with weigh := { s.weigh with state := .capturing, delayTimer := none } }
  | tareEnd (hdue : s.tareRequestDue = true) (htare : s.weigh.purpose = some .tare) :
    Effect s .tareRequestExpiry (s.endTare .idle).settle
  | tareGone (hdue : s.tareRequestDue = true) (htare : s.weigh.purpose ≠ some .tare) :
    Effect s .tareRequestExpiry { s with weigh := { s.weigh with tareRequest := none } }
  | truckLost (n : Nat) (hdue : s.truckAgingDue n = true) : Effect s (.truckAgingExpiry n) (s.truckLost n).settle
  | truckRemoved (n : Nat) (e : TruckEntry) (hdue : s.lostHoldDue n = true) (hfind : s.trucks.find n = some e) :
    Effect s (.lostHoldEnd n) (s.truckRemoved e).settle
  | loaderQuiet (n : Nat) (hdue : s.rosterQuietDue n = true) :
    Effect s (.rosterQuietExpiry n)
      (State.settle { s with roster := rosterUpdate s.roster n fun e => { e with state := .quiet } })
  | loaderLost (n : Nat) (hdue : s.rosterLostDue n = true) :
    Effect s (.rosterLostExpiry n) (State.settle { s with roster := rosterUpdate s.roster n fun e =>
      { e with state := .lost, lostSince := some s.partTime } })
  | loaderRemoved (n : Nat) (hdue : s.rosterRemovalDue n = true) :
    Effect s (.rosterRemovalExpiry n) (State.settle { s with roster := rosterRemove s.roster n })
  | beacon (hdue : s.beaconTimerDue = true) :
    Effect s .beaconTimerExpiry (State.settle { s.buildBeacon with channel := { s.buildBeacon.channel with
      beaconTimer := nextPeriod s.channel.beaconTimer } })
  | holdOffIdle (fell : Bool) (hdue : s.holdOffDue = true) (hhead : s.channel.takeHead s.settings.station = none) :
    Effect s (.holdOffExpiry fell) { s with channel := { s.channel with holdOff := none } }
  | frameHanded (fell : Bool) (body : List Byte) (channel : ChannelAccess) (hdue : s.holdOffDue = true)
    (hhead : s.channel.takeHead s.settings.station = some (body, channel)) :
    Effect s (.holdOffExpiry fell) { s.readCsIn fell with
      channel := { channel with holdOff := none, frameOnLine := true, carrierWatch := none }
      link := s.link.beginFrame body s.now (s.pins.csIn && !fell) }
  | riseWatched (hlow : s.pins.cdIn = false) (hface : s.station.onFace = true) (hfree : s.channel.frameOnLine = false) :
    Effect s .carrierRise (State.watchCarrier { s with pins := { s.pins with cdIn := true } })
  | riseUnwatched (hlow : s.pins.cdIn = false) (hoff : s.station.onFace = false ∨ s.channel.frameOnLine = true) :
    Effect s .carrierRise { s with pins := { s.pins with cdIn := true } }
  | fallWatched (hhigh : s.pins.cdIn = true) (hface : s.station.onFace = true) :
    Effect s .carrierFall (State.reportChannel { s with
      pins := { s.pins with cdIn := false }
      channel := { s.channel with carrierWatch := none, carrierStuck := false } }).settle
  | fallUnwatched (hhigh : s.pins.cdIn = true) (hoff : s.station.onFace = false) :
    Effect s .carrierFall { s with pins := { s.pins with cdIn := false } }
  | carrierStuck (hdue : s.carrierWatchDue = true) :
    Effect s .carrierWatchExpiry (State.reportChannel { s with
      channel := { s.channel with carrierWatch := none, carrierStuck := true } }).settle
  | received (x : LineCharacter) (hon : s.link.receiveEnable = true)
    (hstart : (decodeCharacter s.settings.rxdInverted x).startBit = true)
    (hrest : s.link.awaitRest = false ∨ (decodeCharacter s.settings.rxdInverted x).restBefore = true)
    (hstop : (decodeCharacter s.settings.rxdInverted x).stopBit = true) :
    Effect s (.characterReceived x) { s.receiveByte (decodeCharacter s.settings.rxdInverted x).byte s.link.onLine.isSome with
      link := { (s.receiveByte (decodeCharacter s.settings.rxdInverted x).byte s.link.onLine.isSome).link with
        awaitRest := false } }
  | framingError (x : LineCharacter) (hon : s.link.receiveEnable = true)
    (hstart : (decodeCharacter s.settings.rxdInverted x).startBit = true)
    (hrest : s.link.awaitRest = false ∨ (decodeCharacter s.settings.rxdInverted x).restBefore = true)
    (hstop : (decodeCharacter s.settings.rxdInverted x).stopBit = false) :
    Effect s (.characterReceived x) { s with link := { s.link with
      lossPending := true, lastArrival := some s.now, awaitRest := true } }
  | byteTaken (x : RxByte) (rest : List RxByte) (hfree : s.link.busy = false) (hfifo : s.link.fifo = x :: rest)
    (hframe : ((s.link.withoutHead rest).takeByte x).2 = none) :
    Effect s .assemblerTakesByte (State.discardOnGap { s with link := ((s.link.withoutHead rest).takeByte x).1 })
  | frameTaken (x : RxByte) (rest : List RxByte) (f : List Byte) (hfree : s.link.busy = false)
    (hfifo : s.link.fifo = x :: rest) (hframe : ((s.link.withoutHead rest).takeByte x).2 = some f) :
    Effect s .assemblerTakesByte (State.acceptFrame { s with link := ((s.link.withoutHead rest).takeByte x).1 } f)
  | gap : Effect s .gapTimeout s.discardOnGap
  | blocksDone : Effect s .frameTakenByBlocks { s with link := { s.link with
      busy := false, busySince := none, busyUnits := 0 } }
  | looped (fell : Bool) (f : OnLine) (hdue : s.characterSentDue = true) (hline : s.link.onLine = some f)
    (hloop : s.link.loopback = true) : Effect s (.characterSent fell) ((s.readCsIn fell).loopedCharacterSent f)
  | sent (fell : Bool) (f : OnLine) (hdue : s.characterSentDue = true) (hline : s.link.onLine = some f)
    (hloop : s.link.loopback = false) : Effect s (.characterSent fell) ((s.readCsIn fell).lineCharacterSent f)
  | csInLevel (hoff : s.station.onFace = false) : Effect s .csInActive { s with pins := { s.pins with csIn := true } }
  | csInResumes (hface : s.station.onFace = true) :
    Effect s .csInActive
      (State.endStall { s with pins := { s.pins with csIn := true }, link := s.link.resume s.now }).settle
  | stalled (hdue : s.stallTimerDue = true) :
    Effect s .stallTimerExpiry (State.reportStall { s with link := s.link.lineFree }).endOwnFrame.settle
  | accepted (x : Transfer) (htransfer : s.panel.transfer = some x) :
    Effect s .accept (State.startTransfer { s with panel := s.panel.accepted })
  | failed (hdue : s.acceptanceDue = true) :
    Effect s .acceptanceTimerExpiry { s with panel := s.panel.failed s.partTime }
  | retried (hdue : s.retryPauseDue = true) :
    Effect s .retryPauseExpiry (State.startTransfer { s with panel := { s.panel with retryPause := none } })
  | inputUnread (k : Key) (a : Bool) (hchange : s.pins.keys.get k ≠ a) (hreset : s.station = .reset) :
    Effect s (.keyInputChange k a) { s with pins := { s.pins with keys := s.pins.keys.set k a } }
  | inputRead (k : Key) (a : Bool) (hchange : s.pins.keys.get k ≠ a) (hrun : s.station ≠ .reset) :
    Effect s (.keyInputChange k a) { s with
      pins := { s.pins with keys := s.pins.keys.set k a }, panel := s.panel.debounceAt k a s.partTime }
  | press (k : Key) (hdue : s.debounceDue k = true) (hup : s.panel.keys.get k = .up) :
    Effect s (.keyDebounceExpiry k) ((s.stopDebounce k).takePress k).settle
  | keyRelease (k : Key) (ignored : Bool) (hdue : s.debounceDue k = true) (hdown : s.panel.keys.get k = .down ignored) :
    Effect s (.keyDebounceExpiry k) ((s.stopDebounce k).takeRelease k ignored).settle
  | shift (hdue : s.shiftHoldDue = true) :
    Effect s .shiftHoldExpiry (State.shiftReset { s with panel := { s.panel with shiftHold := none } }).settle

section
variable (s : State)

/-- A command that acts under a condition and leaves the state as it is otherwise. -/
theorem Effect.of_ite {c : Instr} {p : Prop} [Decidable p] {u : State} (h : p → Effect s c u) :
    ∃ t, (if p then Taken u else Taken s) = .next t ∧ Effect s c t := by
  by_cases hp : p
  · exact ⟨u, if_pos hp, h hp⟩
  · exact ⟨s, if_neg hp, .kept c⟩

theorem execCarrierRise_effect : ∃ t, execCarrierRise s = .next t ∧ Effect s .carrierRise t := by
  unfold execCarrierRise
  cases hcd : s.pins.cdIn with
  | true => exact ⟨_, rfl, .kept _⟩
  | false =>
    simp only [Bool.false_eq_true, if_false]
    split
    case isTrue hwatch =>
      simp only [Bool.and_eq_true, Bool.not_eq_true'] at hwatch
      exact ⟨_, rfl, .riseWatched hcd hwatch.1 hwatch.2⟩
    case isFalse hwatch =>
      refine ⟨_, rfl, .riseUnwatched hcd ?_⟩
      simpa [imp_iff_not_or] using hwatch

theorem execCarrierFall_effect : ∃ t, execCarrierFall s = .next t ∧ Effect s .carrierFall t := by
  unfold execCarrierFall
  cases hcd : s.pins.cdIn with
  | false => exact ⟨_, rfl, .kept _⟩
  | true =>
    simp only [if_true]
    split
    case isTrue hface => exact ⟨_, rfl, .fallWatched hcd hface⟩
    case isFalse hoff => exact ⟨_, rfl, .fallUnwatched hcd (by simpa using hoff)⟩

theorem execScanTimerExpiry_effect : ∃ t, execScanTimerExpiry s = .next t ∧ Effect s .scanTimerExpiry t := by
  cases hdue : s.scanTimerDue with
  | false => exact ⟨_, by simp [execScanTimerExpiry, hdue], .kept _⟩
  | true =>
    cases hflight : s.scan.inFlight with
    | none => exact ⟨_, exec_scanTimerExpiry_of_none hdue hflight, .request hdue hflight⟩
    | some f => exact ⟨_, exec_scanTimerExpiry_of_some hdue hflight, .skipped f hdue hflight⟩

theorem execWordReady_effect (w : BitVec 16) : ∃ t, execWordReady w s = .next t ∧ Effect s (.wordReady w) t := by
  unfold execWordReady
  split
  case h_1 => exact ⟨_, rfl, .kept _⟩
  case h_2 f hflight =>
    split
    case h_1 hopened => exact ⟨_, rfl, .word w f hflight hopened⟩
    case h_2 => exact ⟨_, rfl, .kept _⟩

theorem execBlockEnd_effect : ∃ t, execBlockEnd s = .next t ∧ Effect s .blockEnd t := by
  unfold execBlockEnd
  split
  case h_1 => exact ⟨_, rfl, .kept _⟩
  case h_2 f hflight =>
    split
    case h_1 hopened => exact ⟨_, rfl, .scanEnd f hflight hopened⟩
    case h_2 hclosing => exact ⟨_, rfl, .closed f hflight hclosing⟩

theorem execScanTimeout_effect : ∃ t, execScanTimeout s = .next t ∧ Effect s .scanTimeout t := by
  unfold execScanTimeout
  split
  case isFalse => exact ⟨_, rfl, .kept _⟩
  case isTrue hdue =>
    split
    case h_1 => exact ⟨_, rfl, .kept _⟩
    case h_2 f hflight => exact ⟨_, rfl, .timeout f hdue hflight⟩

theorem execTareRequestExpiry_effect : ∃ t, execTareRequestExpiry s = .next t ∧ Effect s .tareRequestExpiry t := by
  unfold execTareRequestExpiry
  split
  case isFalse => exact ⟨_, rfl, .kept _⟩
  case isTrue hdue =>
    split
    case isTrue htare => exact ⟨_, rfl, .tareEnd hdue htare⟩
    case isFalse htare => exact ⟨_, rfl, .tareGone hdue htare⟩

theorem execLostHoldEnd_effect (n : Nat) : ∃ t, execLostHoldEnd n s = .next t ∧ Effect s (.lostHoldEnd n) t := by
  unfold execLostHoldEnd
  split
  case isFalse => exact ⟨_, rfl, .kept _⟩
  case isTrue hdue =>
    split
    case h_1 => exact ⟨_, rfl, .kept _⟩
    case h_2 e hfind => exact ⟨_, rfl, .truckRemoved n e hdue hfind⟩

theorem execHoldOffExpiry_effect (fell : Bool) :
    ∃ t, execHoldOffExpiry fell s = .next t ∧ Effect s (.holdOffExpiry fell) t := by
  unfold execHoldOffExpiry
  split
  case isFalse => exact ⟨_, rfl, .kept _⟩
  case isTrue hdue =>
    split
    case h_1 hhead => exact ⟨_, rfl, .holdOffIdle fell hdue hhead⟩
    case h_2 body channel hhead => exact ⟨_, rfl, .frameHanded fell body channel hdue hhead⟩

theorem execCharacterReceived_effect (x : LineCharacter) :
    ∃ t, execCharacterReceived x s = .next t ∧ Effect s (.characterReceived x) t := by
  unfold execCharacterReceived
  split
  case isFalse => exact ⟨_, rfl, .kept _⟩
  case isTrue hon =>
    dsimp only
    split
    case isTrue => exact ⟨_, rfl, .kept _⟩
    case isFalse hstarts =>
      simp only [Bool.or_eq_true, Bool.not_eq_true', Bool.and_eq_true, not_or, not_and, Bool.not_eq_false] at hstarts
      obtain ⟨hstart, hrest⟩ := hstarts
      have hrest : s.link.awaitRest = false ∨ (decodeCharacter s.settings.rxdInverted x).restBefore = true := by
        cases hawait : s.link.awaitRest with
        | false => exact .inl rfl
        | true => exact .inr (hrest hawait)
      split
      case isTrue hstop => exact ⟨_, rfl, .received x hon hstart hrest hstop⟩
      case isFalse hstop => exact ⟨_, rfl, .framingError x hon hstart hrest (by simpa using hstop)⟩

theorem execAssemblerTakesByte_effect :
    ∃ t, execAssemblerTakesByte s = .next t ∧ Effect s .assemblerTakesByte t := by
  unfold execAssemblerTakesByte
  split
  case isTrue => exact ⟨_, rfl, .kept _⟩
  case isFalse hfree =>
    split
    case h_1 => exact ⟨_, rfl, .kept _⟩
    case h_2 x rest hfifo =>
      have hfree : s.link.busy = false := by simpa using hfree
      split
      case h_1 l htaken =>
        refine ⟨_, rfl, ?_⟩
        have := Effect.byteTaken (s := s) x rest hfree hfifo (by rw [htaken])
        rwa [htaken] at this
      case h_2 l f htaken =>
        refine ⟨_, rfl, ?_⟩
        have := Effect.frameTaken (s := s) x rest f hfree hfifo (by rw [htaken])
        rwa [htaken] at this

theorem execCharacterSent_effect (fell : Bool) :
    ∃ t, execCharacterSent fell s = .next t ∧ Effect s (.characterSent fell) t := by
  unfold execCharacterSent
  split
  case isFalse => exact ⟨_, rfl, .kept _⟩
  case isTrue hdue =>
    split
    case h_1 => exact ⟨_, rfl, .kept _⟩
    case h_2 f hline =>
      dsimp only
      split
      case isTrue hloop => exact ⟨_, rfl, .looped fell f hdue hline hloop⟩
      case isFalse hloop => exact ⟨_, rfl, .sent fell f hdue hline (by simpa [State.readCsIn] using hloop)⟩

theorem execCsInActive_effect : ∃ t, execCsInActive s = .next t ∧ Effect s .csInActive t := by
  unfold execCsInActive
  dsimp only
  split
  case isTrue hface => exact ⟨_, rfl, .csInResumes hface⟩
  case isFalse hoff => exact ⟨_, rfl, .csInLevel (by simpa using hoff)⟩

theorem execAccept_effect : ∃ t, execAccept s = .next t ∧ Effect s .accept t := by
  unfold execAccept
  split
  case h_1 => exact ⟨_, rfl, .kept _⟩
  case h_2 x htransfer => exact ⟨_, rfl, .accepted x htransfer⟩

theorem execKeyInputChange_effect (k : Key) (a : Bool) :
    ∃ t, execKeyInputChange k a s = .next t ∧ Effect s (.keyInputChange k a) t := by
  unfold execKeyInputChange
  split
  case isTrue => exact ⟨_, rfl, .kept _⟩
  case isFalse hchange =>
    dsimp only
    split
    case isTrue hreset => exact ⟨_, rfl, .inputUnread k a hchange hreset⟩
    case isFalse hrun => exact ⟨_, rfl, .inputRead k a hchange hrun⟩

theorem execKeyDebounceExpiry_effect (k : Key) :
    ∃ t, execKeyDebounceExpiry k s = .next t ∧ Effect s (.keyDebounceExpiry k) t := by
  unfold execKeyDebounceExpiry
  split
  case isFalse => exact ⟨_, rfl, .kept _⟩
  case isTrue hdue =>
    split
    case h_1 hup => exact ⟨_, rfl, .press k hdue hup⟩
    case h_2 ignored hdown => exact ⟨_, rfl, .keyRelease k ignored hdue hdown⟩

/-- Every command answers a next state, by one of its effects. -/
theorem exec_effect (c : Instr) : ∃ t, exec c s = .next t ∧ Effect s c t := by
  cases c with
  -- one effect under one condition
  | deviceReset cause => exact Effect.of_ite s (.reset cause)
  | resetRelease => exact Effect.of_ite s .release
  | partTimeWrap => exact Effect.of_ite s fun ⟨hlast, hrun⟩ => .wrap hlast hrun
  | configStatusByte b => exact Effect.of_ite s fun ⟨hstation, hread, hready⟩ => .readCommand b hstation hread hready
  | configReadComplete m => exact Effect.of_ite s fun ⟨hstation, hread⟩ => .image m hstation hread
  | readTimerExpiry => exact Effect.of_ite s .readEnd
  | selfTestTimerExpiry => exact Effect.of_ite s .selfTestEnd
  | joinTimerExpiry => exact Effect.of_ite s .joined
  | delayTimerExpiry => exact Effect.of_ite s .delayEnd
  | truckAgingExpiry n => exact Effect.of_ite s (.truckLost n)
  | rosterQuietExpiry n => exact Effect.of_ite s (.loaderQuiet n)
  | rosterLostExpiry n => exact Effect.of_ite s (.loaderLost n)
  | rosterRemovalExpiry n => exact Effect.of_ite s (.loaderRemoved n)
  | beaconTimerExpiry => exact Effect.of_ite s .beacon
  | carrierWatchExpiry => exact Effect.of_ite s .carrierStuck
  | stallTimerExpiry => exact Effect.of_ite s .stalled
  | acceptanceTimerExpiry => exact Effect.of_ite s .failed
  | retryPauseExpiry => exact Effect.of_ite s .retried
  | shiftHoldExpiry => exact Effect.of_ite s .shift
  -- one effect, always
  | gapTimeout => exact ⟨_, rfl, .gap⟩
  | frameTakenByBlocks => exact ⟨_, rfl, .blocksDone⟩
  -- several effects
  | scanTimerExpiry => exact execScanTimerExpiry_effect s
  | wordReady w => exact execWordReady_effect s w
  | blockEnd => exact execBlockEnd_effect s
  | scanTimeout => exact execScanTimeout_effect s
  | tareRequestExpiry => exact execTareRequestExpiry_effect s
  | lostHoldEnd n => exact execLostHoldEnd_effect s n
  | holdOffExpiry fell => exact execHoldOffExpiry_effect s fell
  | carrierRise => exact execCarrierRise_effect s
  | carrierFall => exact execCarrierFall_effect s
  | characterReceived x => exact execCharacterReceived_effect s x
  | assemblerTakesByte => exact execAssemblerTakesByte_effect s
  | characterSent fell => exact execCharacterSent_effect s fell
  | csInActive => exact execCsInActive_effect s
  | accept => exact execAccept_effect s
  | keyInputChange k a => exact execKeyInputChange_effect s k a
  | keyDebounceExpiry k => exact execKeyDebounceExpiry_effect s k

end

section
variable {s t : State}

/-- The answer of a command is one of its effects. -/
theorem effect_of_exec {c : Instr} (h : exec c s = .next t) : Effect s c t := by
  obtain ⟨u, hu, heffect⟩ := exec_effect s c
  cases hu.symm.trans h
  exact heffect

/-- No command touches the waiting commands. -/
theorem Effect.pending_kept {c : Instr} (h : Effect s c t) : t.pending = s.pending := by
  cases h <;> simp

/-- On an empty queue the step is the idle step. -/
theorem step_of_empty (hqueue : s.pending = []) : step s = s.idle := by
  simp [step, hqueue]

/-- The free choice among the due events is one of them, taken with another count of free values or the same. -/
theorem State.takeDue_eq (s : State) (first : Instr) (others : List Instr) :
    ∃ c ∈ first :: others, ∃ n, s.takeDue first others = exec c { s with free := n } := by
  unfold State.takeDue
  split
  case isTrue => exact ⟨first, by simp, s.free, rfl⟩
  case isFalse =>
    refine ⟨_, ?_, s.free + 1, rfl⟩
    have hlt : Config.dueChoice s.free % (first :: others).length < (first :: others).length :=
      Nat.mod_lt _ (by simp)
    rw [List.getD_eq_getElem _ _ hlt]
    exact List.getElem_mem hlt

/-- A step is the exec of one command, with the queue's rest or another count of free values, or time passes, or, in
RESET, nothing happens. -/
theorem step_cases (h : step s = .next t) :
    (∃ c l n, exec c { s with pending := l, free := n } = .next t) ∨
      (s.pending = [] ∧ s.dueEvents = [] ∧ (t = s ∨ (s.station ≠ .reset ∧ t = s.advance s.idleUnits))) := by
  unfold step State.idle at h
  split at h
  case h_2 c rest _ => exact .inl ⟨c, rest, s.free, h⟩
  case h_1 hqueue =>
    split at h
    case h_2 first others _ =>
      obtain ⟨c, -, n, hc⟩ := s.takeDue_eq first others
      exact .inl ⟨c, s.pending, n, hc ▸ h⟩
    case h_1 hdue =>
      refine .inr ⟨hqueue, hdue, ?_⟩
      split at h
      case isTrue => exact .inl (by cases h; rfl)
      case isFalse hrun => exact .inr ⟨hrun, by cases h; rfl⟩

/-- A property that every effect keeps, and that does not turn on the waiting commands, the count of free values or the
time, is kept by every step. -/
theorem step_keeps {P : State → Prop} (heffect : ∀ c s t, Effect s c t → P s → P t)
    (hqueue : ∀ s l n, P s → P { s with pending := l, free := n }) (htime : ∀ s n, P s → P (s.advance n))
    (hs : P s) (h : step s = .next t) : P t := by
  obtain ⟨c, l, n, hexec⟩ | ⟨-, -, rfl | ⟨-, rfl⟩⟩ := step_cases h
  · exact heffect c _ t (effect_of_exec hexec) (hqueue s l n hs)
  · exact hs
  · exact htime s _ hs

end

/-! ## The step -/

/-- Settles O1: the step is defined by the queue's front. -/
theorem stepTakesFrontCommand : Obligations.StepTakesFrontCommand := by
  intro c rest s hqueue
  simp [step, hqueue]

/-- Settles O2: every command has an effect, and the idle step with a due event is that of a due event. -/
theorem everyStepAnswersNext : Obligations.EveryStepAnswersNext := by
  refine ⟨fun c s => ?_, fun s hqueue hdue => ?_⟩
  · obtain ⟨t, hexec, heffect⟩ := exec_effect s c
    exact ⟨t, hexec, heffect.pending_kept⟩
  · cases hevents : s.dueEvents with
    | nil => exact absurd hevents hdue
    | cons first others =>
      obtain ⟨c, hmem, n, htake⟩ := s.takeDue_eq first others
      obtain ⟨t, hexec, heffect⟩ := exec_effect { s with free := n } c
      refine ⟨c, t, n, hmem, ?_, hexec, heffect.pending_kept.trans hqueue⟩
      rw [step_of_empty hqueue, State.idle, hevents]
      exact htake.trans hexec

/-! ## Part time -/

/-- The units of an idle step: above 0, and not beyond the end of the millisecond. -/
theorem foldl_min_bounds (l : List Nat) (m : Nat) (hm : 0 < m) (hl : ∀ x ∈ l, 0 < x) :
    0 < l.foldl min m ∧ l.foldl min m ≤ m := by
  induction l generalizing m with
  | nil => exact ⟨hm, le_refl m⟩
  | cons x xs ih =>
    have hx := hl x (by simp)
    obtain ⟨hpos, hle⟩ := ih (min m x) (by omega) fun y hy => hl y (by simp [hy])
    exact ⟨hpos, hle.trans (Nat.min_le_left m x)⟩

theorem State.remainingUnits_pos (s : State) (since : Option Instant) (units : Nat) :
    ∀ x ∈ (s.remainingUnits since units).toList, 0 < x := by
  unfold State.remainingUnits
  (repeat' split) <;> simp
  omega

theorem State.fineWaits_pos (s : State) : ∀ x ∈ s.fineWaits, 0 < x := by
  intro x hx
  simp only [State.fineWaits, List.mem_append] at hx
  obtain (hx | hx) | hx := hx <;> split at hx <;>
    first | exact s.remainingUnits_pos _ _ x hx | simp at hx

theorem State.idleUnits_bounds (s : State) (hsub : s.subTime < 576) :
    0 < s.idleUnits ∧ s.subTime + s.idleUnits ≤ 576 := by
  obtain ⟨hpos, hle⟩ := foldl_min_bounds s.fineWaits (unitsPerMs - s.subTime) (by unfold unitsPerMs; omega) s.fineWaits_pos
  refine ⟨hpos, ?_⟩
  unfold State.idleUnits
  unfold unitsPerMs at *
  omega

/-- Time that passes inside the millisecond, or to its end (log entry 1). -/
theorem State.advance_eq (s : State) (n : Nat) (hle : s.subTime + n ≤ 576) :
    s.advance n = { s with
      partTime := if s.subTime + n = 576 then s.partTime + 1 else s.partTime,
      subTime := if s.subTime + n = 576 then 0 else s.subTime + n } := by
  unfold State.advance unitsPerMs
  by_cases hend : s.subTime + n = 576
  · simp [hend]
  · have hlt : s.subTime + n < 576 := by omega
    simp [hend, Nat.div_eq_of_lt hlt, Nat.mod_eq_of_lt hlt]

/-- Settles O3: the idle units are above 0 and end with the millisecond at the latest. -/
theorem partTimeCountsAndWraps : Obligations.PartTimeCountsAndWraps := by
  refine ⟨fun s hqueue hdue => ⟨fun hreset => ?_, fun hrun hsub => ?_⟩, fun s hlast hrun => ?_⟩
  · rw [step_of_empty hqueue, State.idle, hdue]
    exact if_pos hreset
  · obtain ⟨hpos, hle⟩ := s.idleUnits_bounds hsub
    refine ⟨s.idleUnits, hpos, hle, ?_⟩
    rw [← s.advance_eq _ hle, step_of_empty hqueue, State.idle, hdue]
    exact if_neg hrun
  · simp [exec, execPartTimeWrap, hlast, hrun]

end Sys2Proof.Machine
end


section
/-! Reset, release, the read of the configuration memory and the start-up timers (chapter 10). -/

namespace Sys2Proof.Machine

/-! ## Timers -/

/-- A timer whose run has passed is due (R172). -/
theorem timerDue_of_run {now : PartTime} {timer : Option Timer} {tm : Timer} (htimer : timer = some tm)
    (hrun : tm.run ≤ (now - tm.start).toNat) : timerDue now timer = true := by
  rw [htimer, timerDue_some]
  exact decide_eq_true hrun

theorem nextPeriod_some (tm : Timer) : nextPeriod (some tm) = some ⟨tm.start + BitVec.ofNat 32 tm.run, tm.run⟩ := rfl

/-! ## Reset values -/

/-- Settles O4: each stated value is the one State.reset is written with. -/
theorem resetHoldsStatedValues : Obligations.ResetHoldsStatedValues := by
  refine ⟨rfl, rfl, rfl, rfl, rfl, ⟨rfl, rfl, rfl, rfl, rfl, rfl, rfl, rfl, rfl, rfl, rfl⟩, rfl, rfl, rfl, rfl, rfl,
    rfl, ⟨rfl, rfl, rfl, rfl, rfl, rfl, rfl, rfl, rfl, rfl, rfl, rfl, rfl, rfl, rfl⟩,
    rfl, rfl, rfl, rfl, rfl, rfl, rfl, rfl, fun k => ?_, fun k => ?_, rfl⟩
  · cases k <;> rfl
  · cases k <;> rfl

/-- The reset texts are the suppliers' texts of the reset state (R155, R156). -/
theorem State.reset_displayCurrent : State.reset.DisplayCurrent := by decide

/-- The weigh unit starts IDLE with nothing held, beside a sensor fault that is not set (R60, R104). -/
theorem State.reset_weighFollows : State.reset.WeighFollows := by
  simp [State.WeighFollows, WeighUnit.Sound, State.reset, WeighUnit.reset]

/-- Settles O52: the tables are empty, nothing runs, and the sixteen reset texts are the suppliers'. -/
theorem resetSatisfiesTheInvariants : Obligations.ResetSatisfiesTheInvariants := by
  have hstation : State.reset.station = .reset := rfl
  refine ⟨by decide, by decide, by decide, by decide, by decide, by decide, by decide, by decide, by decide, by decide,
    by decide, by decide, by decide, State.reset_weighFollows, by decide, by decide, rfl, State.reset_displayCurrent,
    ?_, ?_, by decide, by decide⟩
  · exact fun hrun => absurd hstation hrun
  · exact fun hactive => by cases hactive

/-! ## Reset and release (R171) -/

theorem exec_deviceReset (cause : ResetCause) (s : State) :
    exec (.deviceReset cause) s = if resets cause then Taken s.held else Taken s := rfl

theorem exec_resetRelease {s : State} (hreset : s.station = .reset) : exec .resetRelease s = .next s.released.settle :=
  if_pos hreset

/-- A key held at the release has its debounce timer started, and no other (R162). -/
theorem heldKeys_get (keys : PerKey Bool) (now : PartTime) (k : Key) :
    (heldKeys keys now).get k = if keys.get k then some ⟨now, 30⟩ else none := by
  cases k <;> rfl

/-- Settles O5: the reset is `State.held` at the two causes that reset, and the release's debounce timers are those of
the held keys. -/
theorem resetAndRelease : Obligations.ResetAndRelease := by
  refine ⟨⟨fun cause s hcause => ?_, fun n s hshort => ?_⟩, fun s hreset => ?_⟩
  · have hresets : resets cause = true := by
      obtain rfl | ⟨n, hlong, rfl⟩ := hcause
      · rfl
      · exact decide_eq_true hlong
    rw [exec_deviceReset, if_pos hresets]
    rfl
  · have hfiltered : ¬ resets (.lineLow n) = true := by simpa [resets] using hshort
    rw [exec_deviceReset, if_neg hfiltered]
  · refine ⟨_, exec_resetRelease hreset, ?_, fun k => ?_⟩
    · rw [State.settle_panel_debounce]
      exact s.released.settle_settledFrom
    · rw [State.settle_panel_debounce]
      exact heldKeys_get s.pins.keys 0 k

/-! ## The status request (R173) -/

theorem exec_configStatusByte (b : Byte) (s : State) :
    exec (.configStatusByte b) s =
      if s.station = .configRead ∧ s.startup.read = .polling ∧ b.getLsbD 0 = false then
        Taken { s with startup := { s.startup with read := .reading } }
      else Taken s := rfl

/-- Settles O6: bit 0 decides the status byte, and CFG_CS follows the read. -/
theorem statusByteReadyOrBusy : Obligations.StatusByteReadyOrBusy := by
  refine ⟨fun b s hstation hread => ⟨fun hready => ?_, fun hbusy => ?_⟩, fun s => ?_, rfl, rfl, rfl⟩
  · rw [exec_configStatusByte, if_pos ⟨hstation, hread, hready⟩]
  · rw [exec_configStatusByte, if_neg (by simp [hbusy])]
  · unfold State.cfgCs
    cases s.startup.read <;> simp

/-! ## The start-up timers (R173, R178, R179) -/

section
variable {s : State}

theorem exec_readTimerExpiry (hdue : s.readTimerDue = true) :
    exec .readTimerExpiry s = .next (s.enterHalted .config).settle := if_pos hdue

theorem exec_selfTestTimerExpiry (hdue : s.selfTestTimerDue = true) :
    exec .selfTestTimerExpiry s = .next (s.enterHalted .linktest).settle := if_pos hdue

theorem exec_joinTimerExpiry (hdue : s.joinTimerDue = true) :
    exec .joinTimerExpiry s = .next s.enterActive.settle := if_pos hdue

end

/-- Settles O9: each of the three expiries enters its state and settles. -/
theorem startUpTimersExpire : Obligations.StartUpTimersExpire := by
  refine ⟨fun tm s hrun => ⟨fun hstation htimer => ?_, fun hstation htimer => ?_⟩, fun tm s hstation htimer hrun => ?_⟩
  · have hdue : s.readTimerDue = true := by simp [State.readTimerDue, hstation, timerDue_of_run htimer hrun]
    exact ⟨_, exec_readTimerExpiry hdue, State.settle_settledFrom _⟩
  · have hdue : s.selfTestTimerDue = true := by simp [State.selfTestTimerDue, hstation, timerDue_of_run htimer hrun]
    exact ⟨_, exec_selfTestTimerExpiry hdue, State.settle_settledFrom _⟩
  · have hdue : s.joinTimerDue = true := by simp [State.joinTimerDue, hstation, timerDue_of_run htimer hrun]
    exact ⟨_, exec_joinTimerExpiry hdue, State.settle_settledFrom _⟩

end Sys2Proof.Machine
end


section
/-! The scan port's words, blocks and skipped slots (chapter 6). -/

namespace Sys2Proof.Machine

/-! ## Words (R108, R111) -/

theorem exec_wordReady_of_none {s : State} (w : BitVec 16) (hflight : s.scan.inFlight = none) :
    exec (.wordReady w) s = .next s := by
  simp [exec, execWordReady, hflight]

theorem exec_wordReady_of_closing {s : State} {f : ScanInFlight} (w : BitVec 16) (hflight : s.scan.inFlight = some f)
    (hclosing : f.condition = .closing) : exec (.wordReady w) s = .next s := by
  simp [exec, execWordReady, hflight, hclosing]

theorem exec_wordReady_of_opened {s : State} {f : ScanInFlight} (w : BitVec 16) (hflight : s.scan.inFlight = some f)
    (hopened : f.condition = .opened) : exec (.wordReady w) s = .next (s.withInFlight (some (f.addWord w))) := by
  simp [exec, execWordReady, hflight, hopened]

/-- A count held at its limit, as a case split and as a minimum. -/
theorem min_succ_eq_ite (n limit : Nat) : min (n + 1) limit = if n < limit then n + 1 else limit := by
  split <;> omega

/-- Settles O13: the word's fate goes by the scan in flight and its condition. -/
theorem wordReadyCountsAndKeeps : Obligations.WordReadyCountsAndKeeps := by
  refine fun w s => ⟨exec_wordReady_of_none w, fun f => exec_wordReady_of_closing w, fun f hflight hopened => ?_⟩
  rw [exec_wordReady_of_opened w hflight hopened, ScanInFlight.addWord, min_succ_eq_ite]
  rfl

/-! ## Counts and the sensor fault flag (R115, R116) -/

/-- A bad scan on a port: the bad count rises to at most 5, the good count is 0, and the fifth sets the flag. -/
theorem ScanPort.judge_count_bad (p : ScanPort) :
    (p.count false).judge = ⟨p.timer, p.inFlight, min (p.bad + 1) 5, 0, p.fault || min (p.bad + 1) 5 == 5⟩ := by
  unfold ScanPort.count ScanPort.judge
  cases p.fault <;> simp
  split <;> simp_all

/-- A usable scan on a port: the good count rises to at most 10, the bad count is 0, and the tenth clears the flag. -/
theorem ScanPort.judge_count_good (p : ScanPort) :
    (p.count true).judge = ⟨p.timer, p.inFlight, 0, min (p.good + 1) 10, p.fault && min (p.good + 1) 10 != 10⟩ := by
  unfold ScanPort.count ScanPort.judge
  cases p.fault <;> simp
  split <;> simp_all

/-- The scan port's own handling of a scan, with the report of its flag (R115 to R117). -/
theorem State.judgeScan_eq (s : State) (usable : Bool) :
    s.judgeScan usable = { s with
      scan := (s.scan.count usable).judge, panel := s.panel.report .sensor (s.scan.count usable).judge.fault } := rfl

/-! ## The flag's change at the weigh unit (R81, R82) -/

section
variable {s : State}

theorem State.takeFaultChange_same {before : Bool} (hsame : before = s.scan.fault) : s.takeFaultChange before = s :=
  if_pos hsame

/-- The flag being set: BLOCKED without a capture, and a tare ended with TARE (R81). -/
theorem State.takeFaultChange_set (hset : s.scan.fault = true) :
    s.takeFaultChange false = { s with
      weigh := { s.weigh with
        state := .blocked, purpose := none, highestBoom := none, delayTimer := none, forceSum := 0, accepted := 0,
        tilted := 0, tareRequest := if s.weigh.purpose = some .tare then none else s.weigh.tareRequest },
      panel := if s.weigh.purpose = some .tare then s.panel.raise .tare else s.panel } := by
  unfold State.takeFaultChange State.blockWeigh
  simp only [hset, Bool.false_eq_true, if_false, if_true]
  by_cases htare : s.weigh.purpose = some .tare
  · simp only [if_pos htare]
    rfl
  · simp only [if_neg htare]
    rfl

/-- The flag being cleared: HELD with a held result, else ARMED for WEIGH in LOADED, else IDLE (R82). -/
theorem State.takeFaultChange_cleared (hcleared : s.scan.fault = false) (hblocked : s.weigh.state = .blocked) :
    s.takeFaultChange true = { s with weigh :=
      let w := { s.weigh with
        highestBoom := none, delayTimer := none, forceSum := 0, accepted := 0, tilted := 0, purpose := none }
      if s.weigh.held ≠ none then { w with state := .held }
      else if s.cycle.phase = .loaded then { w with state := .armed, purpose := some .weigh }
      else { w with state := .idle } } := by
  unfold State.takeFaultChange State.unblockWeigh
  simp only [hcleared, hblocked, Bool.true_eq_false, Bool.false_eq_true, if_false, if_true]
  cases hheld : s.weigh.held with
  | some h => simp [WeighUnit.rest, WeighUnit.emptied, hheld]
  | none =>
    by_cases hloaded : s.cycle.phase = .loaded
    · simp [hloaded, WeighUnit.rest, WeighUnit.emptied, hheld]
    · simp [hloaded, WeighUnit.rest, WeighUnit.emptied, hheld]

end

/-! ## Skipped slots and timeouts (R106, R110) -/

theorem exec_scanTimeout {s : State} {f : ScanInFlight} (hdue : s.scanTimeoutDue = true)
    (hflight : s.scan.inFlight = some f) :
    exec .scanTimeout s = .next ((s.withInFlight (some { f with condition := .closing })).handOn .notUsable) := by
  simp [exec, execScanTimeout, hdue, hflight]

/-- A scan that is not usable, handed on with the flag unchanged, reaches the weigh unit alone. -/
theorem State.handOn_notUsable_same (s : State) (hsame : (s.scan.count false).judge.fault = s.scan.fault) :
    SettledFrom ((s.judgeScan false).weighScan .notUsable) (s.handOn .notUsable) := by
  have h := s.handOn_settledFrom .notUsable
  rwa [State.takeFaultChange_same hsame.symm] at h

/-- A scan that is not usable does nothing more to a unit that it has BLOCKED. -/
theorem State.weighScan_notUsable_of_ne {s : State} (hstate : s.weigh.state ≠ .capturing) :
    s.weighScan .notUsable = s := if_neg hstate

/-- A scan that is not usable, handed on as the one that sets the flag, leaves the unit BLOCKED. -/
theorem State.handOn_notUsable_set (s : State) (hbefore : s.scan.fault = false)
    (hset : (s.scan.count false).judge.fault = true) :
    SettledFrom ((s.judgeScan false).takeFaultChange false) (s.handOn .notUsable) := by
  have h := s.handOn_settledFrom .notUsable
  rw [hbefore] at h
  have hblocked : ((s.judgeScan false).takeFaultChange false).weigh.state ≠ .capturing := by
    rw [State.takeFaultChange_set hset]
    simp
  exact State.weighScan_notUsable_of_ne hblocked ▸ h

/-- Settles O12: a skipped slot and a timeout are scans that are not usable, handed on; the weigh unit sees the flag's
change first. -/
theorem badSlotsCount : Obligations.BadSlotsCount := by
  intro f s hface hflight ends fault
  have hends : ∀ q : ScanPort, q.bad = s.scan.bad → q.fault = s.scan.fault →
      ends ⟨q.timer, q.inFlight, min (s.scan.bad + 1) 5, 0, fault⟩ (State.handOn { s with scan := q } .notUsable) := by
    intro q hbad hfault
    have hport : (q.count false).judge = ⟨q.timer, q.inFlight, min (s.scan.bad + 1) 5, 0, fault⟩ := by
      rw [q.judge_count_bad, hbad, hfault]
    refine ⟨fun hsame => ?_, fun hchange => ?_⟩
    · have h := State.handOn_notUsable_same { s with scan := q } (by rw [hport, hfault]; exact hsame)
      rw [State.judgeScan_eq, hport] at h
      exact h
    · have hbefore : s.scan.fault = false := by
        cases hs : s.scan.fault with
        | false => rfl
        | true => exact absurd (by simp [fault, hs]) hchange
      have hset : fault = true := by
        cases hf : fault with
        | false => exact absurd (hf.trans hbefore.symm) hchange
        | true => rfl
      have h := State.handOn_notUsable_set { s with scan := q } (hfault.trans hbefore) (by rw [hport]; exact hset)
      rw [State.judgeScan_eq, hport, State.takeFaultChange_set hset] at h
      exact h
  refine ⟨fun tm htimer hrun => ?_, fun hopened hrun => ?_⟩
  · have hdue := State.scanTimerDue_of_elapsed hface htimer hrun
    refine ⟨_, exec_scanTimerExpiry_of_some hdue hflight, ?_⟩
    have h := hends { s.scan with timer := nextPeriod s.scan.timer } rfl rfl
    rw [htimer, nextPeriod_some] at h
    rw [htimer, nextPeriod_some]
    rwa [hflight] at h
  · have hdue : s.scanTimeoutDue = true := (State.scanTimeoutDue_of_opened hflight hopened).mpr hrun
    exact ⟨_, exec_scanTimeout hdue hflight, hends { s.scan with inFlight := some { f with condition := .closing } } rfl rfl⟩

/-! ## The status word and the channels (R112, R113) -/

theorem status_extract_high (w : BitVec 16) : w.extractLsb' 3 13 = 0 ↔ w.toNat < 8 := by
  rw [← BitVec.toNat_inj]
  have hlt := w.isLt
  have hzero : (0 : BitVec 13).toNat = 0 := rfl
  rw [BitVec.extractLsb'_toNat, Nat.shiftRight_eq_div_pow, hzero]
  omega

theorem status_extract_code (w : BitVec 16) : (w.extractLsb' 0 2).toNat = w.toNat % 4 := by
  simp [BitVec.extractLsb'_toNat]

theorem status_brake (w : BitVec 16) (hsmall : w.toNat < 8) : w.getLsbD 2 = decide (4 ≤ w.toNat) := by
  rw [BitVec.getLsbD, Nat.testBit_eq_decide_div_mod_eq]
  congr 1
  simp only [eq_iff_iff]
  omega

/-- The status word by its value: a direction and the brake from a valid word, none and applied from any other (R113). -/
theorem readStatus_eq (w : BitVec 16) :
    readStatus w =
      if w.toNat < 8 ∧ w.toNat % 4 ≠ 0 then
        (if w.toNat % 4 = 1 then .forward else if w.toNat % 4 = 2 then .neutral else .reverse, decide (4 ≤ w.toNat))
      else (.none, true) := by
  unfold readStatus
  by_cases hsmall : w.toNat < 8
  · rw [if_pos ((status_extract_high w).mpr hsmall), status_extract_code, status_brake w hsmall]
    have hcode : w.toNat % 4 = 0 ∨ w.toNat % 4 = 1 ∨ w.toNat % 4 = 2 ∨ w.toNat % 4 = 3 := by omega
    obtain h | h | h | h := hcode <;> simp [h, hsmall]
  · rw [if_neg (mt (status_extract_high w).mp hsmall), if_neg (by simp [hsmall])]

theorem Limits.admits_iff (l : Limits) (v : Int) : l.admits v = true ↔ l.low ≤ v ∧ v ≤ l.high := by
  simp [Limits.admits]

/-- A scan of six words as the channels' limits class it (R112 to R114). -/
theorem readScan_eq (c : Settings) (words : List (BitVec 16)) :
    let w := fun i => words.getD i 0
    let within := fun (l : Limits) (v : Int) => l.low ≤ v ∧ v ≤ l.high
    let status := (w 5).toNat
    let valid := status < 8 ∧ status % 4 ≠ 0
    readScan c words =
      if within c.boom (w 0).toInt ∧ within c.tilt (w 1).toInt then
        .usable (w 0).toInt (w 1).toInt
          (if valid then (if status % 4 = 1 then .forward else if status % 4 = 2 then .neutral else .reverse) else .none)
          (decide (¬ valid ∨ 4 ≤ status))
          (if within c.head (w 2).toNat ∧ within c.rod (w 3).toNat ∧ within c.pitch (w 4).toInt
            then some ⟨(w 2).toNat, (w 3).toNat, (w 4).toInt⟩ else none)
      else .notUsable := by
  intro w within status valid
  have hstatus : readStatus (w 5) =
      (if valid then (if status % 4 = 1 then .forward else if status % 4 = 2 then .neutral else .reverse) else .none,
        decide (¬ valid ∨ 4 ≤ status)) := by
    rw [readStatus_eq]
    by_cases hvalid : valid
    · rw [if_pos hvalid, if_pos hvalid]
      simp only [hvalid, not_true, false_or]
      rfl
    · rw [if_neg hvalid, if_neg hvalid]
      simp only [hvalid, not_false_iff, true_or, decide_true]
  unfold readScan
  simp only [Bool.and_eq_true, Limits.admits_iff, and_assoc]
  simp only [w] at hstatus
  rw [hstatus]
  simp only [within, and_assoc]
  rfl

/-! ## Block ends (R109 to R111) -/

theorem SettledFrom.weigh_eq {u t : State} (h : SettledFrom u t) : t.weigh = u.weigh := by
  obtain ⟨_, _, _, rfl⟩ := h
  rfl

theorem SettledFrom.cycle_eq {u t : State} (h : SettledFrom u t) : t.cycle = u.cycle := by
  obtain ⟨_, _, _, rfl⟩ := h
  rfl

theorem SettledFrom.tally_eq {u t : State} (h : SettledFrom u t) : t.tally = u.tally := by
  obtain ⟨_, _, _, rfl⟩ := h
  rfl

theorem State.abortCapture_previousBoom (s : State) : s.abortCapture.weigh.previousBoom = s.weigh.previousBoom := by
  unfold State.abortCapture
  (repeat' split) <;> rfl

theorem State.takeFaultChange_previousBoom (s : State) (before : Bool) :
    (s.takeFaultChange before).weigh.previousBoom = s.weigh.previousBoom := by
  unfold State.takeFaultChange State.blockWeigh State.unblockWeigh
  (repeat' split) <;> rfl

/-- The previous boom angle follows a usable scan, and no other (R63). -/
theorem State.weighScan_previousBoom (s : State) (scan : Scan) :
    (s.weighScan scan).weigh.previousBoom = match scan with
      | .notUsable => s.weigh.previousBoom
      | .usable boom _ _ _ _ => some boom := by
  cases scan with
  | notUsable =>
    unfold State.weighScan
    dsimp only
    split
    case isTrue => exact s.abortCapture_previousBoom
    case isFalse => rfl
  | usable => rfl

/-- A block of six words gives a usable scan only with the boom angle of its first word. -/
theorem ScanInFlight.outcome_boom (f : ScanInFlight) (c : Settings) {boom tilt : Int} {d : Direction} {b : Bool}
    {r : Option LoadReading} (h : f.outcome c = .usable boom tilt d b r) : boom = (f.words.getD 0 0).toInt := by
  unfold ScanInFlight.outcome at h
  split at h
  case isFalse => cases h
  case isTrue =>
    rw [readScan_eq] at h
    split at h
    case isFalse => cases h
    case isTrue => cases h; rfl

theorem Scan.isUsable_eq (scan : Scan) : scan.isUsable = decide (scan ≠ .notUsable) := by
  cases scan <;> simp [Scan.isUsable]

theorem exec_blockEnd_of_none {s : State} (hflight : s.scan.inFlight = none) : exec .blockEnd s = .next s := by
  simp [exec, execBlockEnd, hflight]

theorem exec_blockEnd_of_closing {s : State} {f : ScanInFlight} (hflight : s.scan.inFlight = some f)
    (hclosing : f.condition = .closing) : exec .blockEnd s = .next (s.withInFlight none) := by
  simp [exec, execBlockEnd, hflight, hclosing]

theorem exec_blockEnd_of_opened {s : State} {f : ScanInFlight} (hflight : s.scan.inFlight = some f)
    (hopened : f.condition = .opened) :
    exec .blockEnd s = .next ((s.withInFlight none).handOn (f.outcome s.settings)) := by
  simp [exec, execBlockEnd, hflight, hopened]

/-- The previous boom angle after a scan has been handed on. -/
theorem State.handOn_previousBoom (s : State) (scan : Scan) :
    (s.handOn scan).weigh.previousBoom = match scan with
      | .notUsable => s.weigh.previousBoom
      | .usable boom _ _ _ _ => some boom := by
  rw [(s.handOn_settledFrom scan).weigh_eq, State.weighScan_previousBoom]
  cases scan with
  | notUsable => exact State.takeFaultChange_previousBoom _ _
  | usable => rfl

/-- A scan that is not usable reaches neither the cycle tracker nor the tally (R88). -/
theorem State.handOn_notUsable_cycle_tally (s : State) :
    (s.handOn .notUsable).cycle = s.cycle ∧ (s.handOn .notUsable).tally = s.tally := by
  have h := s.handOn_settledFrom .notUsable
  rw [h.cycle_eq, h.tally_eq, State.weighScan_cycle, State.weighScan_tally, State.cycleScan]
  simp

/-- Settles O14: the words are classed, the port judges the class, and the blocks behind it take the scan in the order
of `State.handOn`. -/
theorem blockEndClassifies : Obligations.BlockEndClassifies := by
  refine ⟨fun c words => ?_, fun s => ⟨exec_blockEnd_of_none, fun f => exec_blockEnd_of_closing,
    fun f hflight hopened => ?_⟩⟩
  · have h := readScan_eq c words
    exact ⟨fun hwithin => h.trans (if_pos hwithin), fun hwithin => h.trans (if_neg hwithin)⟩
  · intro scan p u w after
    have hport : ((s.withInFlight none).scan.count scan.isUsable).judge = p := by
      rw [Scan.isUsable_eq]
      by_cases hscan : scan = .notUsable
      · simp only [p, if_pos hscan, hscan, ne_eq, not_true, decide_false]
        exact ScanPort.judge_count_bad _
      · simp only [p, if_neg hscan, ne_eq, hscan, not_false_iff, decide_true]
        exact ScanPort.judge_count_good _
    have hsettled := (s.withInFlight none).handOn_settledFrom scan
    rw [State.judgeScan_eq, hport] at hsettled
    refine ⟨_, exec_blockEnd_of_opened hflight hopened, ?_, fun hsame => ?_, fun hset hbefore => ?_,
      fun hcleared hbefore hblocked => ?_, ?_, fun hscan => ?_, by simp, by simp, by simp, by simp, by simp, by simp,
      by simp, by simp⟩
    · rw [State.handOn_scan]
      exact hport
    · rw [State.takeFaultChange_same (by exact hsame.symm)] at hsettled
      exact hsettled
    · have hfault : (s.withInFlight none).scan.fault = false := hbefore
      rw [hfault, State.takeFaultChange_set (by exact hset)] at hsettled
      exact hsettled
    · have hfault : (s.withInFlight none).scan.fault = true := hbefore
      rw [hfault, State.takeFaultChange_cleared (by exact hcleared) (by exact hblocked)] at hsettled
      exact hsettled
    · rw [State.handOn_previousBoom]
      change (match scan with
        | .notUsable => s.weigh.previousBoom
        | .usable boom _ _ _ _ => some boom) = _
      cases hscan : scan with
      | notUsable => simp
      | usable boom tilt d b r =>
        simp only [reduceCtorEq, if_false]
        exact congrArg some (f.outcome_boom s.settings hscan)
    · have h := State.handOn_notUsable_cycle_tally (s.withInFlight none)
      change (State.handOn _ scan).cycle = _ ∧ (State.handOn _ scan).tally = _
      rw [hscan]
      exact h

end Sys2Proof.Machine
end


section
/-! The weigh unit (chapter 4): its timers, the captures, the rounding. -/

namespace Sys2Proof.Machine

/-! ## The timers (R68, R85) -/

theorem exec_delayTimerExpiry {s : State} (hdue : s.delayTimerDue = true) :
    exec .delayTimerExpiry s = .next { s with weigh := { s.weigh with state := .capturing, delayTimer := none } } :=
  if_pos hdue

theorem exec_tareRequestExpiry_of_tare {s : State} (hdue : s.tareRequestDue = true)
    (htare : s.weigh.purpose = some .tare) : exec .tareRequestExpiry s = .next (s.endTare .idle).settle := by
  simp [exec, execTareRequestExpiry, hdue, htare]

/-- Settles O15: both expiries are due when their runs have passed. -/
theorem weighTimersExpire : Obligations.WeighTimersExpire := by
  refine ⟨fun tm s hstate htimer hrun => ?_, fun tm s htimer hrun htare => ?_⟩
  · have hdue : s.delayTimerDue = true := by simp [State.delayTimerDue, hstate, timerDue_of_run htimer hrun]
    exact exec_delayTimerExpiry hdue
  · exact ⟨_, exec_tareRequestExpiry_of_tare (timerDue_of_run htimer hrun) htare, State.settle_settledFrom _⟩

/-! ## Crossings and falls (R64, R71) -/

theorem upwardCrossing_iff (c : Settings) (previous : Option Int) (boom : Int) :
    upwardCrossing c previous boom = true ↔
      (∃ p, previous = some p ∧ p < c.windowStart) ∧ c.windowStart ≤ boom := by
  unfold upwardCrossing
  split <;> simp

/-- The fall is measured from the highest angle before the scan: the scan's own never falls below itself. -/
theorem reversal_raised (h boom : Int) : reversal (some (max h boom)) boom = decide (boom < h - 10) := by
  simp only [reversal, decide_eq_decide]
  omega

theorem WeighUnit.raiseHighest_some {w : WeighUnit} {h : Int} (boom : Int) (hhigh : w.highestBoom = some h) :
    w.raiseHighest boom = { w with highestBoom := some (max h boom) } := by
  simp [WeighUnit.raiseHighest, hhigh]

section
variable {s : State}

/-- An abort empties the accumulator, the highest angle raised before it included. -/
theorem State.abortCapture_raised (boom : Int) :
    State.abortCapture { s with weigh := s.weigh.raiseHighest boom } = s.abortCapture := rfl

/-! ## A usable scan by the unit's state (R67 to R69, R76) -/

theorem State.weighScan_usable (boom tilt : Int) (d : Direction) (b : Bool) (r : Option LoadReading) :
    s.weighScan (.usable boom tilt d b r) = { s.usableScan boom r with
      weigh := { (s.usableScan boom r).weigh with previousBoom := some boom } } := rfl

theorem State.usableScan_of_resting (boom : Int) (r : Option LoadReading)
    (hresting : s.weigh.state = .idle ∨ s.weigh.state = .blocked) : s.usableScan boom r = s := by
  obtain hstate | hstate := hresting <;> simp [State.usableScan, hstate]

theorem State.usableScan_of_uncrossed {boom : Int} (r : Option LoadReading)
    (hstate : s.weigh.state = .armed ∨ s.weigh.state = .held)
    (hcross : upwardCrossing s.settings s.weigh.previousBoom boom = false) : s.usableScan boom r = s := by
  obtain hstate | hstate := hstate <;> simp [State.usableScan, hstate, hcross]

theorem State.usableScan_of_first (boom : Int) (r : Option LoadReading) (hstate : s.weigh.state = .held)
    (hpolicy : s.settings.policy = .first) : s.usableScan boom r = s := by
  simp [State.usableScan, hstate, hpolicy]

theorem State.usableScan_of_crossing {boom : Int} (r : Option LoadReading)
    (hstate : s.weigh.state = .armed ∨ (s.weigh.state = .held ∧ s.settings.policy = .latest))
    (hcross : upwardCrossing s.settings s.weigh.previousBoom boom = true) :
    s.usableScan boom r = s.crossing boom r := by
  obtain hstate | ⟨hstate, hpolicy⟩ := hstate
  · simp [State.usableScan, hstate, hcross]
  · simp [State.usableScan, hstate, hcross, hpolicy]

theorem State.usableScan_of_delaying (boom : Int) (r : Option LoadReading) (hstate : s.weigh.state = .delaying) :
    s.usableScan boom r = s.scanInDelay boom := by
  simp [State.usableScan, hstate]

theorem State.usableScan_of_capturing (boom : Int) (r : Option LoadReading) (hstate : s.weigh.state = .capturing) :
    s.usableScan boom r = s.scanInCapture boom r := by
  simp [State.usableScan, hstate]

/-! ## Scans in DELAYING and CAPTURING -/

theorem State.scanInDelay_of_high {boom h : Int} (hhigh : s.weigh.highestBoom = some h) :
    s.scanInDelay boom =
      if boom < h - 10 then s.abortCapture
      else { s with weigh := { s.weigh with highestBoom := some (max h boom) } } := by
  unfold State.scanInDelay
  dsimp only
  rw [State.abortCapture_raised, WeighUnit.raiseHighest_some boom hhigh]
  simp only [reversal_raised, decide_eq_true_eq]

theorem State.scanInCapture_none (boom : Int) : s.scanInCapture boom none = s.abortCapture := rfl

theorem State.scanInCapture_of_high {boom h : Int} (r : LoadReading) (hhigh : s.weigh.highestBoom = some h) :
    s.scanInCapture boom (some r) =
      if boom < h - 10 then s.abortCapture
      else if s.settings.windowEnd ≤ boom then
        State.completeCapture { s with weigh := { s.weigh with highestBoom := some (max h boom) } }
      else { s with weigh := ({ s.weigh with highestBoom := some (max h boom) } : WeighUnit).sample s.settings boom r } := by
  unfold State.scanInCapture
  dsimp only
  rw [State.abortCapture_raised, WeighUnit.raiseHighest_some boom hhigh]
  simp only [reversal_raised, decide_eq_true_eq]

/-! ## Samples (R69, R70) -/

theorem WeighUnit.sample_below {w : WeighUnit} {c : Settings} {boom : Int} (r : LoadReading)
    (hbelow : boom < c.windowStart) : w.sample c boom r = w := if_pos hbelow

theorem WeighUnit.sample_tilted {w : WeighUnit} {c : Settings} {boom : Int} {r : LoadReading}
    (hinside : c.windowStart ≤ boom) (hpitch : c.pitchLimit < r.pitch.natAbs) :
    w.sample c boom r = { w with tilted := min (w.tilted + 1) 65535 } := by
  simp [WeighUnit.sample, hinside.not_gt, hpitch.not_ge]

theorem WeighUnit.sample_accepted {w : WeighUnit} {c : Settings} {boom : Int} {r : LoadReading}
    (hinside : c.windowStart ≤ boom) (hpitch : r.pitch.natAbs ≤ c.pitchLimit) (hroom : w.accepted < 65535) :
    w.sample c boom r = { w with forceSum := w.forceSum + netForce c r, accepted := w.accepted + 1 } := by
  simp [WeighUnit.sample, hinside.not_gt, hpitch, hroom]

theorem WeighUnit.sample_full {w : WeighUnit} {c : Settings} {boom : Int} {r : LoadReading}
    (hinside : c.windowStart ≤ boom) (hpitch : r.pitch.natAbs ≤ c.pitchLimit) (hfull : w.accepted = 65535) :
    w.sample c boom r = w := by
  simp [WeighUnit.sample, hinside.not_gt, hpitch, hfull]

/-! ## Completions (R72, R84) -/

/-- A WEIGH capture's completion: the result is held and the unit is HELD (R72). -/
theorem State.completeCapture_of_weigh (hweigh : s.weigh.purpose ≠ some .tare) :
    s.completeCapture =
      { s with weigh := { s.weigh.rest .held none with held := some (captureResult s.settings s.weigh) } } :=
  if_neg hweigh

theorem State.completeCapture_of_tare (htare : s.weigh.purpose = some .tare) : s.completeCapture = s.completeTare :=
  if_pos htare

theorem State.completeTare_of_few (hfew : s.weigh.accepted < s.settings.minSamples) : s.completeTare = s.endTare .idle :=
  if_pos hfew

theorem captureResult_of_few {c : Settings} {w : WeighUnit} (hfew : w.accepted < c.minSamples) :
    captureResult c w = ⟨none, if w.accepted < w.tilted then .tilted else .short⟩ := if_pos hfew

theorem captureResult_of_enough {c : Settings} {w : WeighUnit} (henough : c.minSamples ≤ w.accepted) :
    captureResult c w = ⟨some (captureMass c w.zeroForce w.forceSum w.accepted),
      if w.retakes = c.retakes then .good else .retaken⟩ := if_neg henough.not_gt

/-! ## Aborts (R71, R75, R77, R85) -/

theorem State.abortCapture_of_tare (htare : s.weigh.purpose = some .tare) : s.abortCapture = s.endTare .idle :=
  if_pos htare

theorem State.abortCapture_of_held {h : HeldResult} (hweigh : s.weigh.purpose ≠ some .tare)
    (hheld : s.weigh.held = some h) : s.abortCapture = { s with weigh := s.weigh.rest .held none } := by
  simp [State.abortCapture, hweigh, hheld]

theorem State.abortCapture_of_retake (hweigh : s.weigh.purpose ≠ some .tare) (hheld : s.weigh.held = none)
    (hretakes : 0 < s.weigh.retakes) :
    s.abortCapture =
      { s with weigh := { s.weigh.rest .armed (some .weigh) with retakes := s.weigh.retakes - 1 } } := by
  simp [State.abortCapture, hweigh, hheld, hretakes]

theorem State.abortCapture_of_spent (hweigh : s.weigh.purpose ≠ some .tare) (hheld : s.weigh.held = none)
    (hretakes : s.weigh.retakes = 0) :
    s.abortCapture = { s with weigh := { s.weigh.rest .held none with held := some ⟨none, .unstable⟩ } } := by
  simp [State.abortCapture, hweigh, hheld, hretakes]

/-- What an abort leaves of the unit and of the panel: the capture is empty, and only a tare touches the panel. -/
theorem State.abortCapture_frame (s : State) :
    ∃ w panel, s.abortCapture = { s with weigh := w, panel := panel } ∧
      w.accepted = 0 ∧ w.tilted = 0 ∧ w.forceSum = 0 ∧ w.highestBoom = none ∧ w.delayTimer = none ∧
      w.zeroForce = s.weigh.zeroForce := by
  unfold State.abortCapture
  (repeat' split) <;> exact ⟨_, _, rfl, rfl, rfl, rfl, rfl, rfl, rfl⟩

end

/-- A scan that ends a capture aborts it; a usable one leaves its boom angle behind. -/
theorem State.weighScan_of_abort {scan : Scan} {s : State}
    (habort : (s.weigh.state = .capturing ∧ (scan = .notUsable ∨ ∃ boom tilt d b, scan = .usable boom tilt d b none)) ∨
      ((s.weigh.state = .delaying ∨ s.weigh.state = .capturing) ∧
        ∃ boom tilt d b r h, scan = .usable boom tilt d b r ∧ s.weigh.highestBoom = some h ∧ boom < h - 10)) :
    ∃ previous, s.weighScan scan =
      { s.abortCapture with weigh := { s.abortCapture.weigh with previousBoom := previous } } := by
  obtain ⟨hstate, rfl | ⟨boom, tilt, d, b, rfl⟩⟩ | ⟨hstate | hstate, boom, tilt, d, b, r, h, rfl, hhigh, hfall⟩ := habort
  · exact ⟨s.abortCapture.weigh.previousBoom, if_pos hstate⟩
  · rw [State.weighScan_usable, State.usableScan_of_capturing boom none hstate, State.scanInCapture_none]
    exact ⟨_, rfl⟩
  · rw [State.weighScan_usable, State.usableScan_of_delaying boom r hstate, State.scanInDelay_of_high hhigh,
      if_pos hfall]
    exact ⟨_, rfl⟩
  · rw [State.weighScan_usable, State.usableScan_of_capturing boom r hstate]
    cases r with
    | none => exact ⟨_, rfl⟩
    | some r =>
      rw [State.scanInCapture_of_high r hhigh, if_pos hfall]
      exact ⟨_, rfl⟩

/-- Settles O17: every such scan aborts, and the abort goes by the purpose, the held result and the retakes. -/
theorem abortUsesARetake : Obligations.AbortUsesARetake := by
  intro scan s habort
  obtain ⟨previous, hscan⟩ := State.weighScan_of_abort habort
  obtain ⟨w, panel, hframe, haccepted, htilted, hsum, hhigh, hdelay, hzero⟩ := s.abortCapture_frame
  rw [hframe] at hscan
  refine ⟨{ w with previousBoom := previous }, panel, hscan, fun hweigh => ?_, fun htare => ?_, haccepted, htilted, hsum,
    hhigh, hdelay, hzero⟩
  · have hnot : s.weigh.purpose ≠ some .tare := by simp [hweigh]
    have hcases : panel = s.panel ∧ w.tareRequest = s.weigh.tareRequest := by
      cases hheld : s.weigh.held with
      | some h =>
        rw [State.abortCapture_of_held hnot hheld] at hframe
        cases hframe
        exact ⟨rfl, rfl⟩
      | none =>
        obtain hspent | hretakes := Nat.eq_zero_or_pos s.weigh.retakes
        · rw [State.abortCapture_of_spent hnot hheld hspent] at hframe
          cases hframe
          exact ⟨rfl, rfl⟩
        · rw [State.abortCapture_of_retake hnot hheld hretakes] at hframe
          cases hframe
          exact ⟨rfl, rfl⟩
    refine ⟨hcases.1, fun h hheld => ?_, fun hheld hretakes => ?_, fun hheld hspent => ?_, hcases.2⟩
    · rw [State.abortCapture_of_held hnot hheld] at hframe
      cases hframe
      exact ⟨rfl, rfl, hheld, rfl⟩
    · rw [State.abortCapture_of_retake hnot hheld hretakes] at hframe
      cases hframe
      exact ⟨rfl, rfl, rfl, hheld⟩
    · rw [State.abortCapture_of_spent hnot hheld hspent] at hframe
      cases hframe
      exact ⟨rfl, rfl, rfl⟩
  · rw [State.abortCapture_of_tare htare] at hframe
    cases hframe
    exact ⟨rfl, rfl, rfl, rfl, rfl, rfl⟩

/-! ## Crossings (R67, R76) -/

section
variable {s : State} {boom tilt : Int} {d : Direction} {b : Bool} {r : Option LoadReading}

/-- The unit that a crossing finds, ARMED or HELD under LATEST, and the purpose of the capture it starts. -/
structure Crossed (s : State) (boom : Int) (purpose : Option Purpose) : Prop where
  state : s.weigh.state = .armed ∨ (s.weigh.state = .held ∧ s.settings.policy = .latest)
  crosses : upwardCrossing s.settings s.weigh.previousBoom boom = true
  purpose : s.weigh.purpose.or (some .weigh) = purpose

theorem Crossed.windowStart_le {purpose : Option Purpose} (h : Crossed s boom purpose) :
    s.settings.windowStart ≤ boom := ((upwardCrossing_iff _ _ _).mp h.crosses).2

/-- With a delay the crossing starts it. -/
theorem State.weighScan_crossing_delayed {purpose : Option Purpose} (h : Crossed s boom purpose)
    (hdelay : 0 < s.settings.captureDelay) :
    s.weighScan (.usable boom tilt d b r) = { s with weigh := { s.weigh with
      state := .delaying, purpose := purpose, highestBoom := some boom,
      delayTimer := some ⟨s.partTime, s.settings.captureDelay⟩,
      forceSum := 0, accepted := 0, tilted := 0, previousBoom := some boom } } := by
  rw [State.weighScan_usable, State.usableScan_of_crossing r h.state h.crosses, State.crossing, if_neg hdelay.ne',
    WeighUnit.startCapture, if_neg hdelay.ne', h.purpose]
  rfl

/-- The unit in CAPTURING at the crossing scan, without a delay. -/
abbrev State.capturingAt (s : State) (boom : Int) (purpose : Option Purpose) : State :=
  { s with weigh := { s.weigh.rest .capturing purpose with highestBoom := some boom } }

/-- Without a delay the crossing scan is itself taken in CAPTURING (log entry 16). -/
theorem State.weighScan_crossing_at_once {purpose : Option Purpose} (h : Crossed s boom purpose)
    (hdelay : s.settings.captureDelay = 0) :
    s.weighScan (.usable boom tilt d b r) =
      let u := (s.capturingAt boom purpose).scanInCapture boom r
      { u with weigh := { u.weigh with previousBoom := some boom } } := by
  rw [State.weighScan_usable, State.usableScan_of_crossing r h.state h.crosses, State.crossing, if_pos hdelay,
    WeighUnit.startCapture, if_pos hdelay, h.purpose]

/-- The crossing scan in CAPTURING does not fall back: it is the highest itself. -/
theorem State.scanInCapture_capturingAt (purpose : Option Purpose) (x : LoadReading) :
    (s.capturingAt boom purpose).scanInCapture boom (some x) =
      if s.settings.windowEnd ≤ boom then (s.capturingAt boom purpose).completeCapture
      else { s with weigh := (s.capturingAt boom purpose).weigh.sample s.settings boom x } := by
  rw [State.scanInCapture_of_high x rfl, if_neg (by omega), max_self]

end

/-- What ends a crossing without a delay: the reading is missing, or the window is already passed (log entry 16). -/
theorem crossing_ended {s : State} {boom tilt : Int} {d : Direction} {b : Bool} {r : Option LoadReading}
    {purpose : Option Purpose} (h : Crossed s boom purpose) (hdelay : s.settings.captureDelay = 0)
    (hend : r = none ∨ s.settings.windowStart + s.settings.windowWidth ≤ boom) (hmin : 0 < s.settings.minSamples) :
    let ended := { s.weigh with
      highestBoom := none, delayTimer := none, forceSum := 0, accepted := 0, tilted := 0,
      previousBoom := some boom }
    (purpose = some .tare → s.weighScan (.usable boom tilt d b r) = { s with
      weigh := { ended with state := .idle, purpose := none, tareRequest := none },
      panel := s.panel.raise .tare }) ∧
    (purpose = some .weigh → r ≠ none → s.weighScan (.usable boom tilt d b r) = { s with
      weigh := { ended with state := .held, purpose := none, held := some ⟨none, .short⟩ } }) ∧
    (purpose = some .weigh → r = none → s.weigh.held ≠ none → s.weighScan (.usable boom tilt d b r) = { s with
      weigh := { ended with state := .held, purpose := none } }) ∧
    (purpose = some .weigh → r = none → s.weigh.held = none → 0 < s.weigh.retakes →
      s.weighScan (.usable boom tilt d b r) = { s with
        weigh := { ended with state := .armed, purpose := some .weigh, retakes := s.weigh.retakes - 1 } }) ∧
    (purpose = some .weigh → r = none → s.weigh.held = none → s.weigh.retakes = 0 →
      s.weighScan (.usable boom tilt d b r) = { s with
        weigh := { ended with state := .held, purpose := none, held := some ⟨none, .unstable⟩ } }) := by
  intro ended
  have hscan := s.weighScan_crossing_at_once (tilt := tilt) (d := d) (b := b) (r := r) h hdelay
  have hnot : (s.capturingAt boom (some .weigh)).weigh.purpose ≠ some .tare :=
    show some Purpose.weigh ≠ some .tare by decide
  cases r with
  | none =>
    rw [State.scanInCapture_none] at hscan
    refine ⟨fun htare => ?_, fun _ hr => absurd rfl hr, fun hweigh _ hheld => ?_, fun hweigh _ hheld hretakes => ?_,
      fun hweigh _ hheld hspent => ?_⟩
    · rw [hscan, htare, State.abortCapture_of_tare rfl]
      rfl
    · obtain ⟨x, hheld⟩ := Option.ne_none_iff_exists'.mp hheld
      rw [hscan, hweigh, State.abortCapture_of_held hnot hheld]
      rfl
    · rw [hscan, hweigh, State.abortCapture_of_retake hnot hheld hretakes]
      rfl
    · rw [hscan, hweigh, State.abortCapture_of_spent hnot hheld hspent]
      rfl
  | some x =>
    have hpassed : s.settings.windowEnd ≤ boom := hend.resolve_left (by simp)
    rw [State.scanInCapture_capturingAt, if_pos hpassed] at hscan
    refine ⟨fun htare => ?_, fun hweigh _ => ?_, fun _ hr => by simp at hr, fun _ hr => by simp at hr,
      fun _ hr => by simp at hr⟩
    · rw [hscan, htare, State.completeCapture_of_tare rfl, State.completeTare_of_few hmin]
      rfl
    · rw [hscan, hweigh, State.completeCapture_of_weigh hnot, captureResult_of_few hmin]
      rfl

/-- Settles O16: the crossing in its two forms, then the scans in the other states. -/
theorem captureStartsAndSamples : Obligations.CaptureStartsAndSamples := by
  refine ⟨fun boom tilt d b r s => ?_, fun boom tilt h d b r s hstate hhigh hback => ?_,
    fun boom tilt h d b r s hstate hhigh hback hbelow => ?_⟩
  · intro crosses purpose
    refine ⟨fun hunit hcross => ?_, fun hstay => ?_, fun hstate => if_neg hstate⟩
    · have hcrossed : Crossed s boom purpose := by
        have hcross := (upwardCrossing_iff _ _ _).mpr hcross
        obtain ⟨hstate, hpurpose⟩ | ⟨hstate, hpurpose, hpolicy⟩ := hunit
        · obtain ⟨p, hp⟩ := Option.ne_none_iff_exists'.mp hpurpose
          exact ⟨.inl hstate, hcross, by simp [purpose, hstate, hp]⟩
        · exact ⟨.inr ⟨hstate, hpolicy⟩, hcross, by simp [purpose, hstate, hpurpose]⟩
      refine ⟨State.weighScan_crossing_delayed hcrossed, fun x hdelay hr hbelow hpitch => ?_,
        fun x hdelay hr hbelow hpitch => ?_, crossing_ended hcrossed⟩
      · rw [hr, s.weighScan_crossing_at_once hcrossed hdelay, State.scanInCapture_capturingAt,
          if_neg (by exact hbelow.not_ge), WeighUnit.sample_accepted hcrossed.windowStart_le hpitch (show 0 < 65535 by decide)]
        simp only [WeighUnit.rest, WeighUnit.emptied, netForce, zero_add]
      · rw [hr, s.weighScan_crossing_at_once hcrossed hdelay, State.scanInCapture_capturingAt,
          if_neg (by exact hbelow.not_ge), WeighUnit.sample_tilted hcrossed.windowStart_le hpitch]
        rfl
    · have hkept : s.usableScan boom r = s := by
        obtain hstate | hstate | ⟨hstate, hcross⟩ | ⟨hstate, hpolicy⟩ := hstay
        · exact State.usableScan_of_resting boom r (.inl hstate)
        · exact State.usableScan_of_resting boom r (.inr hstate)
        · exact State.usableScan_of_uncrossed r hstate
            (Bool.eq_false_iff.mpr (mt (upwardCrossing_iff _ _ _).mp hcross))
        · exact State.usableScan_of_first boom r hstate hpolicy
      rw [State.weighScan_usable, hkept]
  · rw [State.weighScan_usable, State.usableScan_of_delaying boom r hstate, State.scanInDelay_of_high hhigh,
      if_neg hback]
  · intro counted
    have hscan : s.weighScan (.usable boom tilt d b (some r)) = { s with weigh :=
        { ({ s.weigh with highestBoom := some (max h boom) } : WeighUnit).sample s.settings boom r with
          previousBoom := some boom } } := by
      rw [State.weighScan_usable, State.usableScan_of_capturing boom _ hstate, State.scanInCapture_of_high r hhigh,
        if_neg hback, if_neg (by exact hbelow.not_ge)]
    refine ⟨fun hinside hpitch hroom => ?_, fun hinside hpitch hfull => ?_, fun hinside hpitch => ?_,
      fun hunder => ?_⟩
    · rw [hscan, WeighUnit.sample_accepted hinside hpitch (by exact hroom)]
      rfl
    · rw [hscan, WeighUnit.sample_full hinside hpitch (by exact hfull)]
    · rw [hscan, WeighUnit.sample_tilted hinside hpitch]
    · rw [hscan, WeighUnit.sample_below r hunder]

/-! ## Rounding (R73, R80, R84) -/

/-- A rounded quotient lies within a half of the exact one, an exact half below it (R73). -/
theorem roundHalfUp_bounds (num : Int) {den : Int} (hden : 0 < den) :
    (2 * roundHalfUp num den - 1) * den ≤ 2 * num ∧ 2 * num < (2 * roundHalfUp num den + 1) * den := by
  have hpos : 0 < 2 * den := by omega
  have hle := Int.ediv_mul_le (2 * num + den) hpos.ne'
  have hlt := Int.lt_ediv_add_one_mul_self (2 * num + den) hpos
  unfold roundHalfUp
  constructor <;> nlinarith only [hle, hlt]

/-- A clamped mass is the rounded quotient held within 0 to 65535 (R73). -/
theorem captureMass_cast (c : Settings) (z count : Nat) (sum : Int) :
    (captureMass c z sum count : Int) =
      min (max (roundHalfUp ((sum - z * count) * c.spanMass) (count * ((c.spanForce : Int) - z))) 0) 65535 :=
  Int.toNat_of_nonneg (by omega)

/-- The mean becomes the zero force exactly when it lies within a tenth of the configured one and below the span force
(R84). -/
theorem tareAccepted_iff (c : Settings) (mean : Int) :
    tareAccepted c mean = true ↔
      (c.zeroForce : Int) - (c.zeroForce : Int) / 10 ≤ mean ∧ mean ≤ (c.zeroForce : Int) + (c.zeroForce : Int) / 10 ∧
        mean < c.spanForce := by
  simp only [tareAccepted, Bool.and_eq_true, decide_eq_true_eq]
  omega

/-- The fill in whole percent is a rounded quotient of Nats, held at 199 (R80). -/
theorem fillPercent_bounds (volume density mass : Nat) (hvolume : 0 < volume) (hdensity : 0 < density) :
    let n := fillPercent volume density mass
    n ≤ 199 ∧ (0 < n → (2 * n - 1) * (volume * density) ≤ 2 * (mass * 10000)) ∧
      (n < 199 → 2 * (mass * 10000) < (2 * n + 1) * (volume * density)) := by
  intro n
  have hden : 0 < volume * density := Nat.mul_pos hvolume hdensity
  generalize hd : volume * density = den at *
  generalize hm : mass * 10000 = num at *
  have hn : n = min ((2 * num + den) / (2 * den)) 199 := by simp [n, fillPercent, hd, hm]
  have hle := Nat.div_mul_le_self (2 * num + den) (2 * den)
  have hlt := Nat.lt_mul_div_succ (2 * num + den) (show 0 < 2 * den by omega)
  generalize (2 * num + den) / (2 * den) = q at *
  clear_value n
  refine ⟨by omega, fun hpos => ?_, fun hsmall => ?_⟩
  · obtain ⟨k, rfl⟩ : ∃ k, n = k + 1 := ⟨n - 1, by omega⟩
    have hq : k + 1 ≤ q := by omega
    have h2 : 2 * (k + 1) - 1 = 2 * k + 1 := by omega
    rw [h2]
    nlinarith only [hle, hq, hden]
  · have hq : q = n := by omega
    rw [hq] at hlt
    nlinarith only [hlt]

/-- Settles O18: both roundings are nearest-with-halves-up, clamped. -/
theorem massAndFillAreRounded : Obligations.MassAndFillAreRounded := by
  refine ⟨⟨fun c z count sum hspan hcount => ?_, by decide⟩, fun volume density mass => fillPercent_bounds _ _ _,
    by decide, fun s => rfl, fun s e mass he => ?_⟩
  · intro num den n
    have hden : 0 < den := Int.mul_pos (by omega) (by omega)
    obtain ⟨hlow, hhigh⟩ := roundHalfUp_bounds num hden
    have hn : n = min (max (roundHalfUp num den) 0) 65535 := captureMass_cast c z count sum
    generalize roundHalfUp num den = q at *
    refine ⟨by omega, fun hpos => ?_, fun hsmall => ?_⟩
    · have hq : n ≤ q := by omega
      nlinarith only [hlow, hq, hden]
    · have hq : q ≤ n := by omega
      nlinarith only [hhigh, hq, hden]
  · simp [State.fill, State.density, he]

/-! ## The end of a capture (R72, R84) -/

/-- A weighable scan at or past the window end completes the capture. -/
theorem State.weighScan_completes {s : State} {boom tilt h : Int} {d : Direction} {b : Bool} (r : LoadReading)
    (hstate : s.weigh.state = .capturing) (hhigh : s.weigh.highestBoom = some h) (hback : ¬ boom < h - 10)
    (hpassed : s.settings.windowStart + s.settings.windowWidth ≤ boom) :
    s.weighScan (.usable boom tilt d b (some r)) =
      let u := State.completeCapture { s with weigh := { s.weigh with highestBoom := some (max h boom) } }
      { u with weigh := { u.weigh with previousBoom := some boom } } := by
  rw [State.weighScan_usable, State.usableScan_of_capturing boom _ hstate, State.scanInCapture_of_high r hhigh,
    if_neg hback, if_pos (by exact hpassed)]

/-- Settles O19: the completion of a WEIGH capture, of a tare with enough samples, and of a tare with fewer. -/
theorem captureCompletes : Obligations.CaptureCompletes := by
  refine ⟨fun boom tilt h d b r s hstate hweigh hhigh hback hpassed => ?_,
    fun boom tilt h d b r s hstate htare hhigh hback hpassed henough hsome => ?_,
    fun boom tilt h d b r s hstate htare hhigh hback hpassed hfew => ?_⟩
  · have hscan := State.weighScan_completes (tilt := tilt) (d := d) (b := b) r hstate hhigh hback hpassed
    rw [State.completeCapture_of_weigh (by simp [hweigh])] at hscan
    refine ⟨_, rfl, by rw [hscan]; rfl, by rw [hscan]; rfl, by rw [hscan]; rfl, fun hfew => ?_, fun henough => ?_⟩
    · rw [hscan, captureResult_of_few (by exact hfew)]
    · rw [hscan, captureResult_of_enough (by exact henough)]
  · have hscan := State.weighScan_completes (tilt := tilt) (d := d) (b := b) r hstate hhigh hback hpassed
    rw [State.completeCapture_of_tare (by exact htare), State.completeTare, if_neg (by exact henough.not_gt)] at hscan
    obtain ⟨hlow, hlt⟩ := roundHalfUp_bounds s.weigh.forceSum (den := s.weigh.accepted) (by omega)
    refine ⟨_, captureMean s.weigh.forceSum s.weigh.accepted, rfl, hlow, hlt, ?_⟩
    by_cases haccepted : tareAccepted s.settings (captureMean s.weigh.forceSum s.weigh.accepted) = true
    · rw [hscan, if_pos (by exact haccepted)]
      have hrange := (tareAccepted_iff _ _).mp haccepted
      rw [if_pos hrange]
      have hmean : 0 ≤ captureMean s.weigh.forceSum s.weigh.accepted := by omega
      exact ⟨rfl, rfl, rfl, Int.toNat_of_nonneg hmean, rfl⟩
    · rw [hscan, if_neg (by exact haccepted), if_neg (mt (tareAccepted_iff _ _).mpr haccepted)]
      exact ⟨rfl, rfl, rfl, rfl, rfl⟩
  · rw [State.weighScan_completes r hstate hhigh hback hpassed, State.completeCapture_of_tare (by exact htare),
      State.completeTare_of_few (by exact hfew)]
    rfl

end Sys2Proof.Machine
end


section
/-! The cycle tracker (chapter 5): the moves of an evaluated scan, the dump event, VOID and the shift reset. -/

namespace Sys2Proof.Machine

/-! ## The moves (R88, R90 to R92) -/

section
variable (s : State)

/-- A scan is evaluated with the fault flag clear and the park brake released (R88). -/
theorem State.cycleScan_evaluated {s : State} (boom tilt : Int) (d : Direction) (r : Option LoadReading)
    (hfault : s.scan.fault = false) :
    s.cycleScan (.usable boom tilt d false r) = s.move (phaseMove s.settings s.cycle.phase boom tilt d) := by
  simp [State.cycleScan, hfault]

theorem State.cycleScan_unevaluated {s : State} (boom tilt : Int) (d : Direction) (b : Bool) (r : Option LoadReading)
    (hskip : s.scan.fault = true ∨ b = true) : s.cycleScan (.usable boom tilt d b r) = s :=
  if_pos (by simpa using hskip)

/-- The cycle tracker after a dump: DUMPING with the dump open, one more pass, and the next number (R93). -/
theorem State.dump_cycle :
    s.dump.cycle = { s.cycle with
      phase := .dumping, openDump := true,
      passes := addPass s.cycle.passes (s.discardBucket.passRecord s.weigh.handover
        (s.discardBucket.credit s.weigh.handover.mass s.trucks.receivingLoad).2),
      nextNumber := numberAfter s.cycle.nextNumber } := by
  simp [State.dump]

/-- The end of DUMPING: a cycle is counted when the dump is open (R92). -/
theorem State.endDump_eq :
    s.endDump = { s with cycle := { s.cycle with
      phase := .empty, openDump := false,
      cycles := if s.cycle.openDump then countUp s.cycle.cycles else s.cycle.cycles } } := by
  unfold State.endDump State.withPhase
  split
  case isTrue => simp
  case isFalse hclosed => simp [hclosed]

theorem State.abandonCycle_cycle :
    s.abandonCycle.cycle = { s.cycle with phase := .empty, abandoned := countUp s.cycle.abandoned } := by
  simp [State.abandonCycle]

/-- The phase a move leads to from a phase. -/
def Move.leadsTo (phase : Phase) : Move → Phase
  | .stay => phase
  | .dig => .digging
  | .load => .loaded
  | .flatDig | .abandon | .dumpEnd => .empty
  | .dump => .dumping

theorem State.move_phase (m : Move) : (s.move m).cycle.phase = m.leadsTo s.cycle.phase := by
  cases m with
  | stay => rfl
  | dig | load | flatDig => simp [State.move, State.withPhase, Move.leadsTo]
  | dump => simp [State.move, State.dump_cycle, Move.leadsTo]
  | abandon => simp [State.move, State.abandonCycle_cycle, Move.leadsTo]
  | dumpEnd => simp [State.move, State.endDump_eq, Move.leadsTo]

/-- Every move of the table but staying leads to another phase. -/
theorem phaseMove_of_leadsTo_same {c : Settings} {phase : Phase} {boom tilt : Int} {d : Direction}
    (hsame : (phaseMove c phase boom tilt d).leadsTo phase = phase) : phaseMove c phase boom tilt d = .stay := by
  cases phase <;> unfold phaseMove at * <;> split_ifs at * <;> simp_all [Move.leadsTo]

end

theorem SettledFrom.discardBucket {s t : State} (h : SettledFrom s t) : SettledFrom s.discardBucket t.discardBucket := by
  obtain ⟨f, x, o, rfl⟩ := h
  exact ⟨f, x, o, rfl⟩

/-- Settles O20: the phases by `State.move_phase`, then what each move does beside the phase. -/
theorem phasesMoveAndCyclesCount : Obligations.PhasesMoveAndCyclesCount := by
  refine ⟨fun boom tilt d b r s => ?_, fun boom tilt r d s hfault => ?_⟩
  · intro t g
    refine ⟨State.cycleScan_unevaluated boom tilt d b r, rfl, fun hfault hbrake => ?_⟩
    subst hbrake
    have ht : t = s.move (phaseMove g s.cycle.phase boom tilt d) := State.cycleScan_evaluated boom tilt d r hfault
    have hphase : t.cycle.phase = (phaseMove g s.cycle.phase boom tilt d).leadsTo s.cycle.phase :=
      (congrArg (·.cycle.phase) ht).trans (s.move_phase _)
    refine ⟨fun h => ?_, fun h => ?_, fun h => ?_, fun h => ?_, fun hsame => ?_⟩
    · rw [hphase, h, phaseMove]
      split_ifs <;> rfl
    · rw [hphase, h, phaseMove]
      split_ifs <;> rfl
    · rw [hphase, h, phaseMove]
      split_ifs <;> rfl
    · rw [hphase, h, phaseMove]
      split_ifs <;> rfl
    · rw [ht, phaseMove_of_leadsTo_same (hphase.symm.trans hsame)]
      rfl
  · intro rested
    have hscan := State.cycleScan_evaluated boom tilt d r hfault
    refine ⟨fun hphase hlow hforward => ?_, fun hphase hhigh hcarry => ?_, fun hphase hhigh hflat => ?_,
      fun hphase hend => ?_, fun hphase htip hlow => ?_⟩
    · rw [hscan, hphase, phaseMove, if_pos ⟨hlow, hforward⟩, State.move, State.leaveEmpty]
      rfl
    · rw [hscan, hphase, phaseMove, if_pos hhigh, if_pos hcarry, State.move, State.armForWeigh]
      rfl
    · rw [hscan, hphase, phaseMove, if_pos hhigh, if_neg hflat.not_ge]
      rfl
    · rw [hscan, hphase, phaseMove, if_pos hend, State.move, State.endDump_eq]
      rfl
    · rw [hscan, hphase, phaseMove, if_pos htip, if_neg hlow.not_ge, State.move, State.abandonCycle]
      exact SettledFrom.discardBucket (State.handWhere_settledFrom _ _)

/-! ## The dump event (R93 to R97) -/

/-- The load of the receiving truck, by the pin or the queue's head (R19). -/
theorem TruckTable.receivingLoad_eq (t : TruckTable) :
    t.receivingLoad =
      (t.pin.or t.queue.head?).bind fun n => (t.find n).map fun e => ⟨n, e.epoch⟩ := by
  unfold TruckTable.receivingLoad TruckTable.receivingEntry TruckTable.receiving
  cases t.pin.or t.queue.head? with
  | none => rfl
  | some n =>
    cases hfind : t.find n with
    | none => simp [hfind]
    | some e => simp [hfind, (t.find_some n e hfind).2]

/-- The newest 16 passes (R96). -/
theorem addPass_eq_drop (ps : List PassRecord) (p : PassRecord) (hlen : ps.length ≤ 16) :
    addPass ps p = ps.drop (ps.length - 15) ++ [p] := by
  unfold addPass
  split
  case isTrue hfull =>
    have h : ps.length - 15 = 1 := by omega
    rw [h]
  case isFalse hroom =>
    have h : ps.length - 15 = 0 := by omega
    rw [h, List.drop_zero]

@[simp] theorem CabPanel.report_eventLatch (p : CabPanel) (k : StateAlert) (holds : Bool) (a : EventAlert) :
    (p.report k holds).alerts.eventLatch a = p.alerts.eventLatch a := by
  simp [CabPanel.report]

theorem Alerts.eventLatch_setEvent_other (a : Alerts) {k j : EventAlert} (l : EventLatch) (h : j ≠ k) :
    (a.setEvent k l).eventLatch j = a.eventLatch j := by
  cases k <;> cases j <;> first | rfl | exact absurd rfl h

theorem CabPanel.raise_eventLatch_other (p : CabPanel) {k a : EventAlert} (h : a ≠ k) :
    (p.raise k).alerts.eventLatch a = p.alerts.eventLatch a :=
  p.alerts.eventLatch_setEvent_other _ h

/-- A credit raises TABLE at most: the other event alerts stay (R32). -/
theorem State.credit_eventLatch (s : State) (m : Option Nat) (l : Option Load) (a : EventAlert) (ha : a ≠ .table) :
    (s.credit m l).1.panel.alerts.eventLatch a = s.panel.alerts.eventLatch a := by
  unfold State.credit
  (repeat' split) <;> simp [State.creditOwn, State.refuseCredit, CabPanel.raise_eventLatch_other _ ha]

/-- Settles O21: the dump's record, credit and emptied unit, read off `State.dump`. -/
theorem dumpCreatesOnePass : Obligations.DumpCreatesOnePass := by
  intro boom tilt r d s hfault hloaded htip hhigh hlen named emptied
  have hdump : s.cycleScan (.usable boom tilt d false r) = s.dump := by
    rw [State.cycleScan_evaluated boom tilt d r hfault, hloaded, phaseMove, if_pos htip, if_pos hhigh, State.move]
  have hnamed : s.trucks.receivingLoad = named := s.trucks.receivingLoad_eq
  have hcycle := s.dump_cycle
  rw [hnamed] at hcycle
  refine ⟨_, s.discardBucket.passRecord s.weigh.handover (emptied.credit s.weigh.handover.mass named).2,
    s.weigh.handover, hdump, rfl, rfl, rfl, rfl, rfl, rfl, rfl, rfl, rfl, rfl, ?_, ?_, s.dump_trucks, ?_, ?_, ?_, ?_, ?_,
    ?_, ?_, ?_, fun hmass => ?_, fun hmass => ?_⟩
  · simp only [State.dump, hnamed, State.handWhere_tally, State.raiseUnweighed_tally]
    rfl
  · simp only [State.dump, hnamed, State.handWhere_channel, State.raiseUnweighed_channel]
    rfl
  · rw [hcycle]
  · rw [hcycle]
  · rw [hcycle]
    exact addPass_eq_drop _ _ hlen
  · rw [hcycle]
    rfl
  · rw [hcycle]
  · rw [hcycle]
  · rw [hcycle]
  · simp only [State.dump, State.handWhere_weigh, State.raiseUnweighed_weigh, State.credit_weigh]
    rfl
  · simp only [State.dump, State.handWhere_panel_alerts, State.raiseUnweighed, hmass, Option.isNone_none, if_true]
    rfl
  · obtain ⟨x, hx⟩ := Option.ne_none_iff_exists'.mp hmass
    simp only [State.dump, State.handWhere_panel_alerts, State.raiseUnweighed, hx, Option.isNone_some,
      Bool.false_eq_true, if_false]
    exact State.credit_eventLatch _ _ _ _ (by decide)

/-! ## VOID (R99, R100) -/

theorem newestUnvoided_of_all {ps : List PassRecord} (hall : ∀ p ∈ ps, p.voided = true) : newestUnvoided ps = none := by
  simpa [newestUnvoided] using hall

section
variable {before after : List PassRecord} {p : PassRecord}

theorem newestUnvoided_of_split (hunvoided : p.voided = false) (hafter : ∀ q ∈ after, q.voided = true) :
    newestUnvoided (before ++ p :: after) = some p := by
  have hnone : after.reverse.find? (!·.voided) = none := by simpa using hafter
  simp [newestUnvoided, List.find?_append, hnone, hunvoided]

/-- Marking skips what is voided already. -/
theorem markFirst_append (hunvoided : p.voided = false) (hafter : ∀ q ∈ after, q.voided = true) :
    markFirst (after ++ p :: before) = after ++ { p with voided := true } :: before := by
  induction after with
  | nil => simp [markFirst, hunvoided]
  | cons q qs ih =>
    have hq := hafter q (by simp)
    simp [markFirst, hq, ih fun x hx => hafter x (by simp [hx])]

theorem voidNewest_of_split (hunvoided : p.voided = false) (hafter : ∀ q ∈ after, q.voided = true) :
    voidNewest (before ++ p :: after) = before ++ { p with voided := true } :: after := by
  have hmark := markFirst_append (before := before.reverse) (after := after.reverse) hunvoided (by simpa using hafter)
  simp [voidNewest, hmark]

end

section
variable {s : State} {p : PassRecord}

theorem State.pressVoid_of_none (hnone : newestUnvoided s.cycle.passes = none) : s.pressVoid = s := by
  simp [State.pressVoid, hnone]

theorem State.pressVoid_of_late (hnewest : newestUnvoided s.cycle.passes = some p)
    (hlate : 60000 ≤ elapsed s.partTime p.dumpedAt) : s.pressVoid = s := by
  simp [State.pressVoid, hnewest, hlate.not_gt]

/-- A press in time, outside HALTED, goes by the tally's answer to the void claim. -/
theorem State.pressVoid_of_claimed (hnewest : newestUnvoided s.cycle.passes = some p)
    (htime : elapsed s.partTime p.dumpedAt < 60000) (hrun : s.station ≠ .halted) :
    s.pressVoid =
      if (s.voidClaim p.mass p.load).2 then { (s.voidClaim p.mass p.load).1.showTexts with
        cycle := { s.cycle with passes := voidNewest s.cycle.passes } }
      else s := by
  have hcycle := s.voidClaim_cycle p.mass p.load
  simp only [State.pressVoid, hnewest, if_pos (And.intro htime hrun)]
  split
  case h_1 hclaim => simp [hclaim]
  case h_2 hclaim =>
    rw [hclaim] at hcycle
    simp only [hclaim, if_true, ← hcycle]

end

theorem StationState.not_halted_of_onFace {st : StationState} (h : st.onFace = true) : st ≠ .halted := by
  rintro rfl
  simp [StationState.onFace] at h

/-- Settles O25: the newest unvoided pass is the claim's, and the tally's answer decides. -/
theorem voidMarksTheNewestPass : Obligations.VoidMarksTheNewestPass := by
  intro s hface
  refine ⟨fun hall => State.pressVoid_of_none (newestUnvoided_of_all hall), fun before after p hpasses hunvoided hafter => ?_⟩
  have hnewest : newestUnvoided s.cycle.passes = some p := by
    rw [hpasses]
    exact newestUnvoided_of_split hunvoided hafter
  refine ⟨State.pressVoid_of_late hnewest, fun htime hrefused => ?_, fun htime htaken => ?_⟩
  · have h := State.pressVoid_of_claimed hnewest htime (StationState.not_halted_of_onFace hface)
    rwa [hrefused, if_neg (by decide)] at h
  · have h := State.pressVoid_of_claimed hnewest htime (StationState.not_halted_of_onFace hface)
    rw [htaken, if_pos rfl, hpasses, voidNewest_of_split hunvoided hafter] at h
    rw [h]
    simp

/-! ## The shift reset (R102, R165) -/

theorem exec_shiftHoldExpiry {s : State} (hdue : s.shiftHoldDue = true) :
    exec .shiftHoldExpiry s =
      .next (State.shiftReset { s with panel := { s.panel with shiftHold := none } }).settle := if_pos hdue

/-- Settles O26: the expiry is due for a SHIFT key that is DOWN, and is the shift reset, settled. -/
theorem shiftResetStartsAShift : Obligations.ShiftResetStartsAShift := by
  intro i tm s hdown htimer hrun
  have hdue : s.shiftHoldDue = true := by
    simp [State.shiftHoldDue, hdown, KeyState.isDown, timerDue_of_run htimer hrun]
  exact ⟨_, exec_shiftHoldExpiry hdue, State.settle_settledFrom _⟩

end Sys2Proof.Machine
end


section
/-! The load tally (chapter 2): credits, voids, items with a new key, remaining mass and OVERLOAD. -/

namespace Sys2Proof.Machine

/-! ## Records by their key (R23) -/

theorem Contribution.hasKey_iff (r : Contribution) (contributor truck epoch : Nat) :
    r.hasKey contributor truck epoch = true ↔ r.contributor = contributor ∧ r.truck = truck ∧ r.epoch = epoch := by
  simp [Contribution.hasKey, and_assoc]

theorem findRecord_eq (rs : List Contribution) (contributor truck epoch : Nat) :
    findRecord rs contributor truck epoch =
      rs.find? fun r => decide (r.contributor = contributor ∧ r.truck = truck ∧ r.epoch = epoch) := by
  refine congrArg (rs.find? ·) (funext fun r => ?_)
  rw [Bool.eq_iff_iff, Contribution.hasKey_iff, decide_eq_true_iff]

theorem updateRecord_eq (rs : List Contribution) (contributor truck epoch : Nat) (f : Contribution → Contribution) :
    updateRecord rs contributor truck epoch f =
      rs.map fun r => if r.contributor = contributor ∧ r.truck = truck ∧ r.epoch = epoch then f r else r := by
  simp only [updateRecord, Contribution.hasKey_iff]

/-! ## Credits of a truck pass (R31, R32) -/

@[simp] theorem ShiftTotals.addOwn_some (t : ShiftTotals) (x : Nat) :
    t.addOwn (some x) = { t with
      ownPasses := min (t.ownPasses + 1) 4294967295, ownMass := min (t.ownMass + x) 4294967295 } := rfl

@[simp] theorem ShiftTotals.addOwn_none (t : ShiftTotals) :
    t.addOwn none = { t with
      ownPasses := min (t.ownPasses + 1) 4294967295, unweighed := min (t.unweighed + 1) 4294967295 } := rfl

section
variable {s : State} {m : Option Nat} {l : Load} {e : TruckEntry} {r : Contribution}

/-- A credit to a load that is not open goes to the pile (R31, R45). -/
theorem State.credit_of_closed (hclosed : ∀ e, s.trucks.find l.truck = some e → e.epoch ≠ l.epoch) :
    s.credit m (some l) = (s.creditPile m, none) := by
  unfold State.credit
  cases hfind : s.trucks.find l.truck with
  | none => simp [hfind]
  | some e => simp [hfind, hclosed e hfind]

variable (hfind : s.trucks.find l.truck = some e) (hepoch : e.epoch = l.epoch)
include hfind hepoch

theorem State.credit_of_held (hheld : findRecord s.tally.records s.settings.station l.truck l.epoch = some r) :
    s.credit m (some l) =
      if 255 ≤ r.revision ∨ 48 ≤ r.passes then (s.refuseCredit m, none)
      else (s.creditOwn m (updateRecord s.tally.records s.settings.station l.truck l.epoch (·.credited m))
        (r.credited m), some l) := by
  simp [State.credit, hfind, hepoch, hheld]

theorem State.credit_of_new (hnew : findRecord s.tally.records s.settings.station l.truck l.epoch = none) :
    s.credit m (some l) =
      if 12 ≤ s.tally.ownCount then (s.refuseCredit m, none)
      else (s.creditOwn m (s.tally.records ++ [(emptyOwnRecord s.settings.station l).credited m])
        ((emptyOwnRecord s.settings.station l).credited m), some l) := by
  simp [State.credit, hfind, hepoch, hnew]

end

/-- What a credit that reaches an own record leaves in the tally and in channel access (R31, R35). -/
theorem State.creditOwn_tally (s : State) (m : Option Nat) (rs : List Contribution) (r : Contribution) :
    (s.creditOwn m rs r).tally = { s.tally with records := rs, shift := s.tally.shift.addOwn m } := by
  simp [State.creditOwn]

theorem State.creditOwn_channel (s : State) (m : Option Nat) (rs : List Contribution) (r : Contribution) :
    (s.creditOwn m rs r).channel =
      if s.station = .active then s.channel.queueNotice ⟨r.slot, s.channel.beaconSequence⟩ else s.channel := by
  simp [State.creditOwn, State.handNotice_channel]

/-- Settles O31: a credit by whether the load is open, the own record is held, and a limit is met. -/
theorem truckCredit : Obligations.TruckCredit := by
  refine ⟨fun rs contributor truck epoch f => ⟨findRecord_eq _ _ _ _, updateRecord_eq _ _ _ _ _⟩, fun t => ⟨rfl, rfl⟩,
    fun r => rfl, fun m l s hclosed => ?_, fun m l e s hfind hepoch => ?_⟩
  · rw [State.credit_of_closed hclosed]
    exact ⟨rfl, rfl⟩
  · intro taken made shift
    have htaken : (fun r : Contribution => r.credited m) = taken := by
      funext r
      cases m <;> rfl
    have hmade : (emptyOwnRecord s.settings.station l).credited m = made := by
      cases m <;> simp [made, emptyOwnRecord, Contribution.credited]
    have hshift : s.tally.shift.addOwn m = shift := by
      cases m <;> rfl
    refine ⟨fun r hheld => ⟨fun hrevision hpasses => ?_, fun hlimit => ?_⟩, fun hnew => ⟨fun hroom => ?_, fun hfull => ?_⟩⟩
    · rw [State.credit_of_held hfind hepoch hheld, if_neg (by omega), State.creditOwn_tally, State.creditOwn_channel,
        htaken, hshift, show r.credited m = taken r from congrFun htaken r]
      exact ⟨rfl, rfl, rfl, rfl⟩
    · rw [State.credit_of_held hfind hepoch hheld, if_pos hlimit]
      exact ⟨rfl, rfl⟩
    · rw [State.credit_of_new hfind hepoch hnew, if_neg hroom.not_ge, State.creditOwn_tally, State.creditOwn_channel,
        hmade, hshift]
      exact ⟨rfl, rfl, rfl, rfl⟩
    · rw [State.credit_of_new hfind hepoch hnew, if_pos hfull]
      exact ⟨rfl, rfl⟩

/-! ## Voids of a truck pass (R34) -/

/-- A record absorbs a void exactly with a pass, a revision below 255, and the mass or the unweighed pass in it. -/
theorem Contribution.absorbs_iff (r : Contribution) (m : Option Nat) :
    r.absorbs m = true ↔ 1 ≤ r.passes ∧ r.revision < 255 ∧ (∀ x, m = some x → x ≤ r.mass) ∧
      (m = none → 1 ≤ r.unweighed) := by
  cases m <;> simp [Contribution.absorbs, and_assoc]

theorem Contribution.withdrawn_eq (r : Contribution) (m : Option Nat) :
    r.withdrawn m = { r with
      revision := r.revision + 1, passes := r.passes - 1, mass := r.mass - m.getD 0,
      unweighed := if m = none then r.unweighed - 1 else min r.unweighed (r.passes - 1) } := by
  cases m <;> simp [Contribution.withdrawn]

theorem ShiftTotals.voidOwn_eq (t : ShiftTotals) (m : Option Nat) :
    t.voidOwn m = { t with
      ownPasses := t.ownPasses - 1, ownMass := t.ownMass - m.getD 0,
      unweighed := if m = none then t.unweighed - 1 else t.unweighed } := by
  cases m <;> simp [ShiftTotals.voidOwn]

/-- The state after a void claim that the tally takes (R34, R35). -/
def State.voided (s : State) (m : Option Nat) (l : Load) (r : Contribution) : State :=
  (State.handNotice { s with tally := { s.tally with
    records := updateRecord s.tally.records s.settings.station l.truck l.epoch (·.withdrawn m),
    shift := s.tally.shift.voidOwn m } } (r.withdrawn m)).evalOverload

section
variable {s : State} {m : Option Nat} {l : Load}

/-- A void claim on a truck's load is taken when the load is open and its own record absorbs the void; else nothing
changes (R34). -/
theorem State.voidClaim_cases (s : State) (m : Option Nat) (l : Load) :
    (∃ e r, s.trucks.find l.truck = some e ∧ e.epoch = l.epoch ∧
        findRecord s.tally.records s.settings.station l.truck l.epoch = some r ∧ r.absorbs m = true ∧
        s.voidClaim m (some l) = (s.voided m l r, true)) ∨
      ((¬ ∃ e r, s.trucks.find l.truck = some e ∧ e.epoch = l.epoch ∧
        findRecord s.tally.records s.settings.station l.truck l.epoch = some r ∧ r.absorbs m = true) ∧
        s.voidClaim m (some l) = (s, false)) := by
  unfold State.voidClaim
  cases hfind : s.trucks.find l.truck with
  | none => exact .inr ⟨by simp, by simp [hfind]⟩
  | some e =>
    by_cases hepoch : e.epoch = l.epoch
    · cases hheld : findRecord s.tally.records s.settings.station l.truck l.epoch with
      | none => exact .inr ⟨by simp, by simp [hfind, hepoch, hheld]⟩
      | some r =>
        cases habsorbs : r.absorbs m with
        | true => exact .inl ⟨e, r, rfl, hepoch, rfl, habsorbs, by simp [hfind, hepoch, hheld, habsorbs, State.voided]⟩
        | false => exact .inr ⟨by simp [habsorbs], by simp [hfind, hepoch, hheld, habsorbs]⟩
    · exact .inr ⟨by simp [hepoch], by simp [hfind, hepoch]⟩

end

theorem State.voided_tally (s : State) (m : Option Nat) (l : Load) (r : Contribution) :
    (s.voided m l r).tally = { s.tally with
      records := updateRecord s.tally.records s.settings.station l.truck l.epoch (·.withdrawn m),
      shift := s.tally.shift.voidOwn m } := by
  simp [State.voided]

theorem State.voided_channel (s : State) (m : Option Nat) (l : Load) (r : Contribution) :
    (s.voided m l r).channel =
      if s.station = .active then s.channel.queueNotice ⟨(r.withdrawn m).slot, s.channel.beaconSequence⟩
      else s.channel := by
  simp [State.voided, State.handNotice_channel]

/-- Settles O32: by `State.voidClaim_cases`, taken or without effect. -/
theorem truckVoid : Obligations.TruckVoid := by
  intro m l s absorbs unweighed
  obtain ⟨e, r, hfind, hepoch, hheld, habsorbs, hclaim⟩ | ⟨hnone, hclaim⟩ := s.voidClaim_cases m l
  · refine ⟨?_, fun hrefused => ?_, fun _ => ?_, fun r' hheld' _ => ⟨?_, ?_⟩⟩
    · rw [hclaim]
      exact ⟨fun _ => ⟨⟨e, hfind, hepoch⟩, r, hheld, (r.absorbs_iff m).mp habsorbs⟩, fun _ => rfl⟩
    · rw [hclaim] at hrefused
      cases hrefused
    · rw [hclaim, State.voided_tally]
      simp only [Contribution.withdrawn_eq]
      rfl
    · rw [hclaim, State.voided_tally, ShiftTotals.voidOwn_eq]
    · cases hheld.symm.trans hheld'
      rw [hclaim, State.voided_channel, Contribution.withdrawn_eq]
      rfl
  · refine ⟨?_, fun _ => by rw [hclaim], fun htaken => ?_, fun r' hheld' htaken => ?_⟩
    · rw [hclaim]
      refine iff_of_false Bool.false_ne_true fun ⟨⟨e, hfind, hepoch⟩, r, hheld, habsorbs⟩ => ?_
      exact absurd ⟨e, r, hfind, hepoch, hheld, (r.absorbs_iff m).mpr habsorbs⟩ hnone
    · rw [hclaim] at htaken
      cases htaken
    · rw [hclaim] at htaken
      cases htaken

/-! ## Items with a new key (R25 to R27, R36) -/

theorem isStation_iff (n : Nat) : isStation n = true ↔ 1 ≤ n ∧ n ≤ 60 := by
  simp [isStation]

theorem Item.passesChecks_iff (i : Item) (station : Nat) :
    i.passesChecks station = true ↔
      i.sender ≠ station ∧ (1 ≤ i.contributor ∧ i.contributor ≤ 60) ∧ (1 ≤ i.truck ∧ i.truck ≤ 60) ∧
        i.revision ≠ 0 ∧ i.passes ≤ 48 ∧ i.unweighed ≤ i.passes := by
  simp [Item.passesChecks, isStation, and_assoc, Nat.one_le_iff_ne_zero]

section
variable {s : State} {i : Item}

theorem State.mergeItem_of_failed (hfails : i.passesChecks s.settings.station = false) : s.mergeItem i = s := by
  simp [State.mergeItem, hfails]

theorem State.mergeItem_of_closed (hclosed : ∀ e, s.trucks.find i.truck = some e → e.epoch ≠ i.epoch) :
    s.mergeItem i = s := by
  unfold State.mergeItem
  cases hfind : s.trucks.find i.truck with
  | none => simp
  | some e => simp [hclosed e hfind]

theorem State.mergePeer_of_new (hnew : findRecord s.tally.records i.contributor i.truck i.epoch = none) :
    s.mergePeer i =
      if 36 ≤ s.tally.peerCount then s.markDropped i.truck
      else (s.withRecords (s.tally.records ++ [i.record false])).evalOverload := by
  simp [State.mergePeer, hnew]

theorem State.adopt_of_new (hnew : findRecord s.tally.records i.contributor i.truck i.epoch = none) :
    s.adopt i =
      if 12 ≤ s.tally.ownCount then (s.markDropped i.truck).raise .table
      else ((s.withRecords (s.tally.records ++ [i.record true])).handNotice (i.record true)).evalOverload := by
  simp [State.adopt, hnew]

end

/-- Settles O34: past the checks and with the load open, a new key goes by the contributor and the room there is. -/
theorem newKeyNeedsAPlace : Obligations.NewKeyNeedsAPlace := by
  intro i s marked
  refine ⟨i.passesChecks_iff _, State.mergeItem_of_failed, State.mergeItem_of_closed,
    fun e hcheck hfind hepoch hnew => ?_⟩
  have hmerge := State.mergeItem_of_matched hcheck hfind hepoch
  rw [State.adopt_of_new hnew, State.mergePeer_of_new hnew] at hmerge
  refine ⟨fun hpeer hroom => ?_, fun hpeer hfull => ?_, fun hown hroom => ?_, fun hown hfull => ?_⟩
  · rw [hmerge, if_neg hpeer, if_neg hroom.not_ge]
    exact ⟨rfl, rfl, rfl⟩
  · rw [hmerge, if_neg hpeer, if_pos hfull]
    rfl
  · rw [hmerge, if_pos hown, if_neg hroom.not_ge]
    refine ⟨by simp [Item.record], ?_, by simp⟩
    simp only [State.evalOverload_channel, State.handNotice_channel]
    rfl
  · rw [hmerge, if_pos hown, if_pos hfull]
    rfl

/-! ## Remaining mass and OVERLOAD (R39, R41) -/

/-- The receiving truck's entry is that of the pinned truck, or else of the queue's head (R19). -/
theorem TruckTable.receivingEntry_eq (t : TruckTable) :
    t.receivingEntry = (t.pin.or t.queue.head?).bind t.find := by
  unfold TruckTable.receivingEntry TruckTable.receiving
  cases t.pin.or t.queue.head? <;> rfl

/-- Settles O35: both are read off their definitions. -/
theorem remainingAndOverload : Obligations.RemainingAndOverload := by
  refine ⟨fun target total => ⟨fun hzero => if_pos hzero, fun hsome => if_neg hsome⟩, fun s => ?_⟩
  unfold State.overload LoadTally.loadRecords totalMass
  rw [TruckTable.receivingEntry_eq]
  cases s.trucks.pin.or s.trucks.queue.head? with
  | none => simp
  | some n =>
    cases hfind : s.trucks.find n with
    | none => simp [hfind]
    | some e => simp [hfind]

end Sys2Proof.Machine
end


section
/-! The cells of the display: what handing texts and starting a transfer make of them (R156, R158), and that every shared
operation changes them in no other way. -/

namespace Sys2Proof.Machine

/-! ## The lowest pending field -/

theorem takeLowest_of_none (i : Nat) (cs : List FieldCell) (hnone : ∀ c ∈ cs, c.pending = false) :
    takeLowest i cs = none := by
  induction cs generalizing i with
  | nil => rfl
  | cons c cs ih =>
    obtain ⟨hc, hcs⟩ := List.forall_mem_cons.mp hnone
    simp [takeLowest, hc, ih (i + 1) hcs]

theorem takeLowest_append (i : Nat) (before : List FieldCell) {a : FieldCell} (after : List FieldCell)
    (hbefore : ∀ d ∈ before, d.pending = false) (ha : a.pending = true) :
    takeLowest i (before ++ a :: after) =
      some (i + before.length, a.text, before ++ { a with pending := false } :: after) := by
  induction before generalizing i with
  | nil => simp [takeLowest, ha]
  | cons d before ih =>
    obtain ⟨hd, hrest⟩ := List.forall_mem_cons.mp hbefore
    simp [takeLowest, hd, ih (i + 1) hrest, Nat.add_assoc, Nat.add_comm 1]

/-- No cell is pending, or there is a first pending cell. -/
theorem firstPending_cases (cs : List FieldCell) :
    (∀ c ∈ cs, c.pending = false) ∨
      ∃ before a after, cs = before ++ a :: after ∧ a.pending = true ∧ ∀ d ∈ before, d.pending = false := by
  cases hfind : cs.find? (·.pending) with
  | none => exact .inl (by simpa using hfind)
  | some a =>
    obtain ⟨ha, before, after, rfl, hbefore⟩ := List.find?_eq_some_iff_append.mp hfind
    exact .inr ⟨before, a, after, rfl, ha, by simpa using hbefore⟩

/-! ## The start of a transfer -/

section
variable {p : CabPanel} {now : PartTime}

theorem CabPanel.startTransfer_of_busy (hbusy : p.transfer ≠ none ∨ p.retryPause ≠ none ∨ ∀ a ∈ p.fields, a.pending = false) :
    p.startTransfer now = p := by
  unfold CabPanel.startTransfer
  split
  case isTrue => rfl
  case isFalse hfree =>
    obtain h | h | hnone := hbusy
    · exact absurd (by simp [Option.isSome_iff_ne_none.mpr h]) hfree
    · exact absurd (by simp [Option.isSome_iff_ne_none.mpr h]) hfree
    · simp [takeLowest_of_none 0 p.fields hnone]

theorem CabPanel.startTransfer_of_first {before after : List FieldCell} {a : FieldCell} (htransfer : p.transfer = none)
    (hpause : p.retryPause = none) (hfields : p.fields = before ++ a :: after) (ha : a.pending = true)
    (hbefore : ∀ d ∈ before, d.pending = false) :
    p.startTransfer now = { p with
      fields := before ++ { a with pending := false } :: after, transfer := some ⟨before.length, a.text, ⟨now, 50⟩⟩ } := by
  simp [CabPanel.startTransfer, htransfer, hpause, hfields, takeLowest_append 0 before after hbefore ha]

end

/-! ## What handing texts and starting transfers can do -/

/-- The cells and the transfer of q come from those of p by texts handed and transfers started: a transfer in flight stays,
and a cell that was pending, or whose text has changed, is pending, or a transfer of its text has started. -/
structure CabPanel.Follows (p q : CabPanel) : Prop where
  length : q.fields.length = p.fields.length
  transfer : ∀ x, p.transfer = some x → q.transfer = some x
  cell : ∀ i before after, p.fields[i]? = some before → q.fields[i]? = some after →
    before.text ≠ after.text ∨ before.pending = true →
      after.pending = true ∨ (p.transfer = none ∧ ∃ x, q.transfer = some x ∧ x.field = i ∧ x.text = after.text)

section
variable {p q r : CabPanel}

theorem CabPanel.Follows.of_same (hfields : q.fields = p.fields) (htransfer : q.transfer = p.transfer) : p.Follows q where
  length := by rw [hfields]
  transfer x hx := htransfer.trans hx
  cell i before after hbefore hafter hchange := by
    rw [hfields, hbefore] at hafter
    cases hafter
    exact .inl (hchange.resolve_left fun h => h rfl)

theorem CabPanel.Follows.trans (hpq : p.Follows q) (hqr : q.Follows r) : p.Follows r where
  length := hqr.length.trans hpq.length
  transfer x hx := hqr.transfer x (hpq.transfer x hx)
  cell i before after hbefore hafter hchange := by
    have hlt : i < q.fields.length := by
      rw [← hqr.length]
      exact (List.getElem?_eq_some_iff.mp hafter).1
    have hmid := List.getElem?_eq_getElem hlt
    have unstarted : q.transfer = none → p.transfer = none := fun hq =>
      Option.eq_none_iff_forall_ne_some.mpr fun x hx => by simp [hpq.transfer x hx] at hq
    by_cases hlater : q.fields[i].text ≠ after.text ∨ q.fields[i].pending = true
    · exact (hqr.cell i _ after hmid hafter hlater).imp_right fun ⟨hnone, hstarted⟩ => ⟨unstarted hnone, hstarted⟩
    · obtain ⟨htext, hpending⟩ := not_or.mp hlater
      have htext : q.fields[i].text = after.text := not_not.mp htext
      obtain h | ⟨hnone, x, hx, hfield, hxtext⟩ := hpq.cell i before _ hbefore hmid (by rwa [htext])
      · exact absurd h hpending
      · exact .inr ⟨hnone, x, hqr.transfer x hx, hfield, hxtext.trans htext⟩

/-- A panel whose changed cells are pending. -/
theorem CabPanel.Follows.of_pending (hlength : q.fields.length = p.fields.length) (htransfer : q.transfer = p.transfer)
    (hcell : ∀ (i : Nat) (before after : FieldCell), p.fields[i]? = some before → q.fields[i]? = some after →
      before.text ≠ after.text ∨ before.pending = true → after.pending = true) : p.Follows q where
  length := hlength
  transfer _ hx := htransfer.trans hx
  cell i before after hbefore hafter hchange := .inl (hcell i before after hbefore hafter hchange)

theorem CabPanel.startTransfer_follows (p : CabPanel) (now : PartTime) : p.Follows (p.startTransfer now) := by
  by_cases hbusy : p.transfer ≠ none ∨ p.retryPause ≠ none
  · rw [CabPanel.startTransfer_of_busy (hbusy.imp_right .inl)]
    exact .of_same rfl rfl
  · obtain ⟨htransfer, hpause⟩ := not_or.mp hbusy
    obtain hnone | ⟨before, a, after, hfields, ha, hbefore⟩ := firstPending_cases p.fields
    · rw [CabPanel.startTransfer_of_busy (.inr (.inr hnone))]
      exact .of_same rfl rfl
    · rw [CabPanel.startTransfer_of_first (not_not.mp htransfer) (not_not.mp hpause) hfields ha hbefore]
      have hset : before ++ { a with pending := false } :: after =
          p.fields.set before.length { a with pending := false } := by simp [hfields]
      refine ⟨by simp [hset], fun x hx => by simp [not_not.mp htransfer] at hx, fun i b c hb hc hchange => ?_⟩
      rw [hset] at hc
      by_cases hi : before.length = i
      · subst hi
        refine .inr ⟨not_not.mp htransfer, _, rfl, rfl, ?_⟩
        simp only [hfields, List.set_append_right _ _ (le_refl _), Nat.sub_self, List.set_cons_zero,
          List.getElem?_append_right (le_refl _), List.getElem?_cons_zero, Option.some.injEq] at hc
        exact hc ▸ rfl
      · rw [List.getElem?_set_ne hi, hb] at hc
        cases hc
        exact .inl (hchange.resolve_left fun h => h rfl)

end

/-! ## Texts handed -/

/-- The cells after the fields that are handed have taken their suppliers' texts. -/
def State.handedCells (s : State) (handed : Nat → Bool) : List FieldCell :=
  s.panel.fields.mapIdx fun i a => if handed i = true ∧ fieldText s i ≠ a.text then ⟨fieldText s i, true⟩ else a

theorem FieldCell.hand_eq (c : FieldCell) (t : Text) : c.hand t = if t ≠ c.text then ⟨t, true⟩ else c := by
  rw [ite_not]
  rfl

theorem handTexts_eq_mapIdx (s : State) (handed : Nat → Bool) (i : Nat) (cs : List FieldCell) :
    handTexts s handed i cs = cs.mapIdx fun j a =>
      if handed (i + j) = true ∧ fieldText s (i + j) ≠ a.text then ⟨fieldText s (i + j), true⟩ else a := by
  induction cs generalizing i with
  | nil => rfl
  | cons c cs ih =>
    rw [handTexts, List.mapIdx_cons, ih]
    congr 1
    · rw [FieldCell.hand_eq, Nat.add_zero]
      split_ifs with h <;> simp_all
    · simp only [Nat.add_assoc, Nat.add_comm 1]

section
variable (s : State) (handed : Nat → Bool)

theorem State.handWhere_eq :
    s.handWhere handed = State.startTransfer { s with panel := { s.panel with fields := s.handedCells handed } } := by
  unfold State.handWhere State.handedCells
  rw [handTexts_eq_mapIdx]
  simp only [Nat.zero_add]

theorem State.handedCells_follows : s.panel.Follows { s.panel with fields := s.handedCells handed } := by
  refine .of_pending (by simp [State.handedCells]) rfl fun i before after hbefore hafter hchange => ?_
  simp only [State.handedCells, List.getElem?_mapIdx, hbefore, Option.map_some, Option.some.injEq] at hafter
  rw [← hafter] at hchange ⊢
  split_ifs at hchange ⊢
  · rfl
  · exact hchange.resolve_left fun h => h rfl

theorem State.startTransfer_follows : s.panel.Follows s.startTransfer.panel := by
  unfold State.startTransfer
  split
  · exact .of_same rfl rfl
  · exact s.panel.startTransfer_follows s.partTime

theorem State.handWhere_panelFollows : s.panel.Follows (s.handWhere handed).panel := by
  rw [State.handWhere_eq]
  exact (s.handedCells_follows handed).trans
    (State.startTransfer_follows { s with panel := { s.panel with fields := s.handedCells handed } })

end

/-! ## Shared operations: texts handed and notices queued -/

/-- t comes from s with texts handed, transfers started and, in ACTIVE, notices queued; the station state and the rest of
channel access are those of s. -/
structure State.Follows (s t : State) : Prop where
  station : t.station = s.station
  panel : s.panel.Follows t.panel
  channel : ∃ ns : List Notice, t.channel = ns.foldl ChannelAccess.queueNotice s.channel ∧ (s.station ≠ .active → ns = [])

section
variable {s t u : State}

theorem State.Follows.of_same (hstation : t.station = s.station) (hchannel : t.channel = s.channel)
    (hfields : t.panel.fields = s.panel.fields) (htransfer : t.panel.transfer = s.panel.transfer) : s.Follows t :=
  ⟨hstation, .of_same hfields htransfer, [], hchannel, fun _ => rfl⟩

theorem State.Follows.trans (hst : s.Follows t) (htu : t.Follows u) : s.Follows u := by
  obtain ⟨hstation, hpanel, ns, hchannel, hns⟩ := hst
  obtain ⟨hstation', hpanel', ns', hchannel', hns'⟩ := htu
  refine ⟨hstation'.trans hstation, hpanel.trans hpanel', ns ++ ns', ?_, fun h => ?_⟩
  · rw [hchannel', hchannel, List.foldl_append]
  · rw [hns h, hns' (by rwa [hstation])]
    rfl

/-- An operation that leaves the cells, the transfer and the hold-off as it finds them, whatever they are. -/
theorem State.Follows.of_recell (hstation : t.station = s.station) (hchannel : t.channel = s.channel)
    (hrecell : t = t.recell s.panel.fields s.panel.transfer s.channel.holdOff) : s.Follows t :=
  .of_same hstation hchannel (by rw [hrecell]) (by rw [hrecell])

end

theorem ChannelAccess.queueNotice_eq (c : ChannelAccess) (n : Notice) :
    c.queueNotice n = { c with notices := (c.queueNotice n).notices } := by
  unfold ChannelAccess.queueNotice
  dsimp only
  split_ifs <;> rfl

theorem ChannelAccess.queueNotices_eq (c : ChannelAccess) (ns : List Notice) :
    ns.foldl ChannelAccess.queueNotice c = { c with notices := (ns.foldl ChannelAccess.queueNotice c).notices } := by
  induction ns generalizing c with
  | nil => rfl
  | cons n ns ih =>
    rw [List.foldl_cons, ih, c.queueNotice_eq n]

section
variable (s : State)

theorem State.handWhere_follows (handed : Nat → Bool) : s.Follows (s.handWhere handed) :=
  ⟨by simp, s.handWhere_panelFollows handed, [], by simp, fun _ => rfl⟩

theorem State.handNotice_follows (r : Contribution) : s.Follows (s.handNotice r) := by
  refine ⟨by simp, .of_same (by simp) (by simp), ?_⟩
  rw [State.handNotice_channel]
  split_ifs with hactive
  · exact ⟨[_], rfl, fun h => absurd hactive h⟩
  · exact ⟨[], rfl, fun _ => rfl⟩

theorem State.evalOverload_follows : s.Follows s.evalOverload := .of_same rfl rfl rfl rfl

theorem State.report_follows (k : StateAlert) (holds : Bool) : s.Follows (s.report k holds) := .of_same rfl rfl rfl rfl

/-! ### The tally -/

theorem State.creditOwn_follows (m : Option Nat) (records : List Contribution) (r : Contribution) :
    s.Follows (s.creditOwn m records r) :=
  have kept : s.Follows { s with tally := { s.tally with records := records, shift := s.tally.shift.addOwn m } } :=
    .of_same rfl rfl rfl rfl
  kept.trans ((State.handNotice_follows _ r).trans (State.evalOverload_follows _))

theorem State.credit_follows (m : Option Nat) (load : Option Load) : s.Follows (s.credit m load).1 := by
  unfold State.credit
  have pile : s.Follows (s.creditPile m) := .of_same rfl rfl rfl rfl
  have refused : s.Follows (s.refuseCredit m) := .of_same rfl rfl rfl rfl
  dsimp only
  split
  · exact pile
  · split
    · exact pile
    · split
      · exact pile
      · split <;> split
        · exact refused
        · exact s.creditOwn_follows m _ _
        · exact refused
        · exact s.creditOwn_follows m _ _

theorem State.voidClaim_follows (m : Option Nat) (load : Option Load) : s.Follows (s.voidClaim m load).1 := by
  cases load with
  | none => exact .of_same rfl rfl rfl rfl
  | some l =>
    obtain ⟨_, r, -, -, -, -, hclaim⟩ | ⟨-, hclaim⟩ := s.voidClaim_cases m l
    · rw [hclaim]
      have kept : s.Follows { s with tally := { s.tally with
          records := updateRecord s.tally.records s.settings.station l.truck l.epoch (·.withdrawn m),
          shift := s.tally.shift.voidOwn m } } := .of_same rfl rfl rfl rfl
      exact kept.trans ((State.handNotice_follows _ _).trans (State.evalOverload_follows _))
    · rw [hclaim]
      exact .of_same rfl rfl rfl rfl

theorem State.mergePeer_follows (i : Item) : s.Follows (s.mergePeer i) := by
  unfold State.mergePeer
  split <;> split_ifs <;> exact .of_same rfl rfl rfl rfl

theorem State.adopt_follows (i : Item) : s.Follows (s.adopt i) := by
  have noticed (rs : List Contribution) (r : Contribution) :
      s.Follows ((s.withRecords rs).handNotice r).evalOverload :=
    have kept : s.Follows (s.withRecords rs) := .of_same rfl rfl rfl rfl
    kept.trans ((State.handNotice_follows _ r).trans (State.evalOverload_follows _))
  unfold State.adopt
  split <;> split_ifs
  · exact noticed _ _
  · exact .of_same rfl rfl rfl rfl
  · exact .of_same rfl rfl rfl rfl
  · exact noticed _ _

theorem State.mergeItem_follows (i : Item) : s.Follows (s.mergeItem i) := by
  unfold State.mergeItem
  split
  · split
    · exact .of_same rfl rfl rfl rfl
    · split_ifs
      · exact .of_same rfl rfl rfl rfl
      · exact s.adopt_follows i
      · exact s.mergePeer_follows i
  · exact .of_same rfl rfl rfl rfl

theorem State.mergeItems_follows (is : List Item) : s.Follows (s.mergeItems is) := by
  unfold State.mergeItems
  induction is generalizing s with
  | nil => exact .of_same rfl rfl rfl rfl
  | cons i is ih =>
    exact ((s.mergeItem_follows i).trans (State.handWhere_follows _ _)).trans (ih (s.takeItem i))

theorem State.closeLoad_follows (e : TruckEntry) (reason : CloseReason) : s.Follows (s.closeLoad e reason) :=
  have kept : s.Follows { s with tally := s.closedTally e reason } := .of_same rfl rfl rfl rfl
  kept.trans ((State.evalOverload_follows _).trans (State.handWhere_follows _ _))

/-! ### The truck table and the roster -/

theorem State.spotChange_follows (n : Nat) (wasHere waiting isHere : Bool) :
    s.Follows (s.spotChange n wasHere waiting isHere) := by
  unfold State.spotChange
  dsimp only
  split_ifs <;> exact .of_same rfl rfl rfl rfl

theorem State.handEchoes_follows (b : TruckBeacon) : s.Follows (s.handEchoes b) := s.mergeItems_follows _

theorem State.refreshEntry_follows (e : TruckEntry) (b : TruckBeacon) : s.Follows (s.refreshEntry e b) := by
  have closed : s.Follows (if decide (b.epoch ≠ e.epoch) then s.closeLoad e .newLoad else s) := by
    split_ifs
    · exact s.closeLoad_follows e .newLoad
    · exact .of_same rfl rfl rfl rfl
  have updated (u : State) (trucks : TruckTable) : u.Follows { u with trucks := trucks } := .of_same rfl rfl rfl rfl
  exact closed.trans ((updated _ _).trans ((State.spotChange_follows _ _ _ _ _).trans
    ((State.evalOverload_follows _).trans (State.handWhere_follows _ _))))

theorem State.createEntry_follows (b : TruckBeacon) : s.Follows (s.createEntry b) := by
  have added : s.Follows { s with trucks := { s.trucks with
      entries := s.trucks.entries ++ [b.newEntry s.settings.station s.partTime] } } := .of_same rfl rfl rfl rfl
  exact added.trans ((State.spotChange_follows _ _ _ _ _).trans
    ((State.evalOverload_follows _).trans (State.handWhere_follows _ _)))

theorem State.takeTruckBeacon_follows (b : TruckBeacon) : s.Follows (s.takeTruckBeacon b) := by
  unfold State.takeTruckBeacon
  split
  · split
    · exact (s.refreshEntry_follows _ b).trans (State.handEchoes_follows _ b)
    · split
      · exact (s.createEntry_follows b).trans (State.handEchoes_follows _ b)
      · split
        · exact .of_same rfl rfl rfl rfl
        next old _ =>
          have removed : (s.closeLoad old .evicted).Follows
              { s.closeLoad old .evicted with trucks := (s.closeLoad old .evicted).trucks.remove old.truck } :=
            .of_same rfl rfl rfl rfl
          exact (s.closeLoad_follows old .evicted).trans
            (removed.trans ((State.createEntry_follows _ b).trans (State.handEchoes_follows _ b)))
  · exact .of_same rfl rfl rfl rfl

theorem State.truckRemoved_follows (e : TruckEntry) : s.Follows (s.truckRemoved e) :=
  (s.closeLoad_follows e .lost).trans (.of_same rfl rfl rfl rfl)

theorem State.rosterPart_follows (n : Nat) (p : PartFacts) : s.Follows (s.rosterPart n p) := by
  unfold State.rosterPart
  split_ifs <;> exact .of_same rfl rfl rfl rfl

theorem State.rosterNotice_follows (n : Nat) : s.Follows (s.rosterNotice n) := by
  unfold State.rosterNotice
  split_ifs <;> exact .of_same rfl rfl rfl rfl

/-- A frame of another station dispatched. -/
theorem State.dispatch_follows {f : List Byte} (hother : frameSender f ≠ s.settings.station) :
    s.Follows (s.dispatch f) := by
  unfold State.dispatch
  rw [if_neg hother]
  split_ifs
  · exact s.takeTruckBeacon_follows _
  · exact (s.rosterPart_follows _ _).trans ((State.handWhere_follows _ _).trans (State.mergeItems_follows _ _))
  · exact (s.rosterNotice_follows _).trans ((State.handWhere_follows _ _).trans (State.mergeItems_follows _ _))

/-! ### The scan's blocks -/

theorem State.takeFaultChange_follows (before : Bool) : s.Follows (s.takeFaultChange before) :=
  .of_recell (by simp) (by simp)
    (s.recell_takeFaultChange s.panel.fields s.panel.transfer s.channel.holdOff before)

theorem State.weighScan_follows (c : Scan) : s.Follows (s.weighScan c) :=
  .of_recell (by simp) (by simp) (s.recell_weighScan s.panel.fields s.panel.transfer s.channel.holdOff c)

theorem State.raiseUnweighed_follows (m : Option Nat) : s.Follows (s.raiseUnweighed m) := by
  unfold State.raiseUnweighed
  split_ifs <;> exact .of_same rfl rfl rfl rfl

theorem State.dump_follows : s.Follows s.dump := by
  have withCycle (u : State) (cycle : CycleTracker) : u.Follows { u with cycle := cycle } := .of_same rfl rfl rfl rfl
  have discarded : s.Follows s.discardBucket := .of_same rfl rfl rfl rfl
  exact discarded.trans ((State.credit_follows _ _ _).trans ((State.handWhere_follows _ _).trans
    ((withCycle _ _).trans ((State.raiseUnweighed_follows _ _).trans (State.handWhere_follows _ _)))))

theorem State.abandonCycle_follows : s.Follows s.abandonCycle := by
  have counted (cycle : CycleTracker) : s.Follows { s with cycle := cycle } := .of_same rfl rfl rfl rfl
  have discarded (u : State) : u.Follows u.discardBucket := .of_same rfl rfl rfl rfl
  exact (counted _).trans ((State.handWhere_follows _ _).trans (discarded _))

theorem State.move_follows (m : Move) : s.Follows (s.move m) := by
  cases m with
  | stay => exact .of_same rfl rfl rfl rfl
  | dig =>
    unfold State.move State.leaveEmpty
    split_ifs <;> exact .of_same rfl rfl rfl rfl
  | load =>
    unfold State.move State.armForWeigh
    split_ifs <;> exact .of_same rfl rfl rfl rfl
  | flatDig => exact .of_same rfl rfl rfl rfl
  | dump => exact s.dump_follows
  | abandon => exact s.abandonCycle_follows
  | dumpEnd =>
    unfold State.move State.endDump
    dsimp only
    split_ifs <;> exact .of_same rfl rfl rfl rfl

theorem State.cycleScan_follows (c : Scan) : s.Follows (s.cycleScan c) := by
  cases c with
  | notUsable => exact .of_same rfl rfl rfl rfl
  | usable boom tilt direction brake load =>
    unfold State.cycleScan
    dsimp only
    split_ifs
    · exact .of_same rfl rfl rfl rfl
    · exact s.move_follows _

/-- What a scan handed on makes of a state before the settling that ends it. -/
theorem State.handOn_eq_settle (c : Scan) : ∃ u, s.handOn c = u.settle ∧ s.Follows u := by
  have judged : s.Follows (s.judgeScan c.isUsable) := .of_same rfl rfl rfl rfl
  exact ⟨_, rfl, judged.trans ((State.handWhere_follows _ _).trans ((State.takeFaultChange_follows _ _).trans
    ((State.handWhere_follows _ _).trans ((State.cycleScan_follows _ c).trans ((State.handWhere_follows _ _).trans
      (State.weighScan_follows _ c))))))⟩

/-! ### Keys and settings -/

theorem State.pressZero_follows : s.Follows s.pressZero := by
  unfold State.pressZero
  split_ifs <;> exact .of_same rfl rfl rfl rfl

theorem State.pressVoid_follows : s.Follows s.pressVoid := by
  unfold State.pressVoid
  split
  · exact .of_same rfl rfl rfl rfl
  next p _ =>
    split_ifs
    · split
      · exact .of_same rfl rfl rfl rfl
      next taken hclaim =>
        have claimed : s.Follows taken := by
          have := s.voidClaim_follows p.mass p.load
          rwa [hclaim] at this
        exact claimed.trans ((State.handWhere_follows _ _).trans (.of_same rfl (by simp) rfl rfl))
    · exact .of_same rfl rfl rfl rfl

theorem State.pressNext_follows : s.Follows s.pressNext := by
  unfold State.pressNext
  split <;> exact .of_same rfl rfl rfl rfl

theorem State.dispatchPress_follows (k : Key) : s.Follows (s.dispatchPress k) := by
  cases k with
  | zero => exact s.pressZero_follows
  | void => exact s.pressVoid_follows
  | next => exact s.pressNext_follows
  | material =>
    have turned (i : Nat) : s.Follows { s with panel := { s.panel with material := i } } := .of_same rfl rfl rfl rfl
    exact (turned _).trans (State.handWhere_follows _ _)
  | ack => exact .of_same rfl rfl rfl rfl
  | shift => exact .of_same rfl rfl rfl rfl

theorem State.takePress_follows (k : Key) : s.Follows (s.takePress k) := by
  unfold State.takePress
  have keyed (state : KeyState) : s.Follows (s.setKey k state) := .of_same rfl rfl rfl rfl
  split_ifs
  · exact keyed _
  · exact (keyed _).trans (State.dispatchPress_follows _ k)

theorem State.takeRelease_follows (k : Key) (ignored : Bool) : s.Follows (s.takeRelease k ignored) := by
  unfold State.takeRelease CabPanel.releaseAck
  cases k
  case ack =>
    dsimp only
    split_ifs
    · exact .of_same rfl rfl rfl rfl
    · split <;> exact .of_same rfl rfl rfl rfl
  all_goals exact .of_same rfl rfl rfl rfl

theorem State.handSettings_follows (image : Image) : s.Follows (s.handSettings image) := by
  have inUse : s.Follows { s with
      settings := valuesInUse image, weigh := { s.weigh with zeroForce := (valuesInUse image).zeroForce } } :=
    .of_same rfl rfl rfl rfl
  unfold State.handSettings
  dsimp only
  split_ifs
  · exact inUse.trans ((State.handWhere_follows _ _).trans ((State.report_follows _ _ _).trans
      (State.handWhere_follows _ _)))
  · exact inUse.trans (State.handWhere_follows _ _)

end

end Sys2Proof.Machine
end


section
/-! What a command does to the display and the hold-off timer: it settles, or it leaves both as they stand (R127, R156,
R158). The display stays current, and transfers and the hold-off keep running. -/

namespace Sys2Proof.Machine

/-! ## The settling at the end of a command -/

/-- The hold-off timer as the settling leaves it (R127). -/
def State.settledHoldOff (s : State) : Option Timer :=
  if s.station = .active ∧ (s.channel.notices ≠ [] ∨ s.channel.parts ≠ []) ∧
      s.channel.frameOnLine = false ∧ s.pins.cdIn = false ∧ s.channel.holdOff = none then
    some ⟨s.partTime, 10 + 4 * s.roster.countP fun e => decide (e.state = .live ∧ e.loader < s.settings.station)⟩
  else s.channel.holdOff

section
variable (s : State)

theorem ChannelAccess.queueEmpty_eq_false_iff (c : ChannelAccess) :
    c.queueEmpty = false ↔ c.notices ≠ [] ∨ c.parts ≠ [] := by
  simp [ChannelAccess.queueEmpty, imp_iff_not_or]

theorem State.startHoldOff_eq : s.startHoldOff = { s with channel := { s.channel with holdOff := s.settledHoldOff } } := by
  have hiff : (s.station = .active ∧ !s.channel.queueEmpty ∧ !s.channel.frameOnLine ∧ !s.pins.cdIn ∧
      s.channel.holdOff.isNone) ↔ (s.station = .active ∧ (s.channel.notices ≠ [] ∨ s.channel.parts ≠ []) ∧
      s.channel.frameOnLine = false ∧ s.pins.cdIn = false ∧ s.channel.holdOff = none) := by
    simp only [Bool.not_eq_true', ChannelAccess.queueEmpty_eq_false_iff, Option.isNone_iff_eq_none]
  unfold State.startHoldOff State.settledHoldOff
  simp only [hiff]
  split_ifs <;> rfl

theorem State.settle_holdOff : s.settle.channel.holdOff = s.settledHoldOff := by
  rw [State.settle, State.showTexts, State.handWhere_channel, State.startHoldOff_eq]

theorem State.settle_panelFollows : s.panel.Follows s.settle.panel := by
  have h := s.startHoldOff.handWhere_panelFollows fun _ => true
  rw [State.startHoldOff_eq] at h
  rw [State.settle, State.startHoldOff_eq]
  exact h

end

/-! ## What the texts depend on -/

/-- The texts read of the weigh unit the held result, and whether it can weigh. -/
theorem fieldText_withWeigh (s : State) (w : WeighUnit) (hheld : w.held = s.weigh.held)
    (havailable : w.available = s.weigh.available) (i : Nat) : fieldText { s with weigh := w } i = fieldText s i := by
  have hshown : State.shownPass { s with weigh := w } = s.shownPass := by
    simp only [State.shownPass, hheld]
    rfl
  have happroximate (rs : List Contribution) (dropped : Bool) :
      State.approximate { s with weigh := w } rs dropped = s.approximate rs dropped := by
    simp only [State.approximate, havailable]
  have hpayload : payloadText { s with weigh := w } = payloadText s := by
    simp only [payloadText, happroximate]
    rfl
  have hsupplied : suppliedText { s with weigh := w } i = suppliedText s i := by
    unfold suppliedText
    split
    case h_3 => simp only [passMassText, hshown]
    case h_4 => simp only [fillText, hshown]
    case h_5 => simp only [passQualityText, hshown]
    case h_7 => exact hpayload
    all_goals rfl
  unfold fieldText
  rw [hsupplied]
  rfl

/-- The queue has no head exactly when it is empty. -/
theorem ChannelAccess.takeHead_eq_none_iff (c : ChannelAccess) {station : Nat} :
    c.takeHead station = none ↔ c.notices = [] ∧ c.parts = [] := by
  unfold ChannelAccess.takeHead
  split <;> simp_all

/-! ## Commands and the display -/

/-- The hold-off timer of t beside that of s, under a command: it stays, or it stops on leaving ACTIVE, on a carrier rise
or at its own expiry. -/
def HoldOffKept (s : State) (c : Instr) (t : State) : Prop :=
  t.channel.holdOff = s.channel.holdOff ∨ (t.channel.holdOff = none ∧ (t.station ≠ .active ∨
    (c = .carrierRise ∧ s.pins.cdIn = false) ∨ ∃ fell, c = .holdOffExpiry fell ∧ s.holdOffDue = true))

/-- What a command makes of the display: it settles, or it leaves every text and the transfer as they stand, or it is one
of the four that act on the transfers themselves. -/
inductive Displayed (s : State) : Instr → State → Prop where
  | settled {c : Instr} {u : State} (hpanel : s.panel.Follows u.panel) (hholdOff : u.channel.holdOff = s.channel.holdOff ∨
      (u.channel.holdOff = none ∧ u.station ≠ .active)) : Displayed s c u.settle
  | unshown {c : Instr} {t : State} (hpanel : t.panel.fields = s.panel.fields ∧ t.panel.transfer = s.panel.transfer ∧
        t.panel.retryPause = s.panel.retryPause)
      (hstation : t.station = s.station) (htexts : ∀ i, fieldText t i = fieldText s i)
      (hruns : s.HoldOffRuns → t.HoldOffRuns) (hholdOff : HoldOffKept s c t) : Displayed s c t
  | reset {cause : ResetCause} : Displayed s (.deviceReset cause) s.held
  | accepted : Displayed s .accept (State.startTransfer { s with panel := s.panel.accepted })
  | failed : Displayed s .acceptanceTimerExpiry { s with panel := s.panel.failed s.partTime }
  | retried : Displayed s .retryPauseExpiry (State.startTransfer { s with panel := { s.panel with retryPause := none } })

section
variable {s t u : State} {c : Instr}

/-- A command that ends with the settling of a state that follows the one it began in. -/
theorem Displayed.of_follows (h : s.Follows u) : Displayed s c u.settle := by
  obtain ⟨-, hpanel, ns, hchannel, -⟩ := h
  refine .settled hpanel (.inl ?_)
  rw [hchannel, ChannelAccess.queueNotices_eq]

theorem Displayed.of_handOn (v : State) (scan : Scan) (hv : s.Follows v) : Displayed s c (v.handOn scan) := by
  obtain ⟨u, hu, hfollows⟩ := v.handOn_eq_settle scan
  rw [hu]
  exact .of_follows (hv.trans hfollows)

/-- A command that leaves alone what the display shows and what the hold-off depends on. -/
theorem Displayed.of_kept (hpanel : t.panel.fields = s.panel.fields ∧ t.panel.transfer = s.panel.transfer ∧
      t.panel.retryPause = s.panel.retryPause)
    (hstation : t.station = s.station) (htexts : ∀ i, fieldText t i = fieldText s i)
    (hchannel : t.channel = s.channel) (hcd : t.pins.cdIn = s.pins.cdIn) : Displayed s c t :=
  .unshown hpanel hstation htexts (by simp only [State.HoldOffRuns, hstation, hchannel, hcd]; exact id)
    (.inl (by rw [hchannel]))

theorem Displayed.refl : Displayed s c s := .of_kept ⟨rfl, rfl, rfl⟩ rfl (fun _ => rfl) rfl rfl

theorem compareTestFrame_displayed (f : List Byte) (hpanel : u.panel = s.panel)
    (hholdOff : u.channel.holdOff = s.channel.holdOff) :
    Displayed s c (u.compareTestFrame f).settle := by
  refine .settled (.of_same (by simp [hpanel]) (by simp [hpanel])) ?_
  unfold State.compareTestFrame
  split_ifs
  · unfold State.enterListen
    dsimp only
    split_ifs
    · exact .inr ⟨rfl, by simp⟩
    · exact .inl hholdOff
  · exact .inl hholdOff
  · exact .inl hholdOff

theorem takeConflict_displayed (hpanel : u.panel = s.panel) (hholdOff : u.channel.holdOff = s.channel.holdOff) :
    Displayed s c u.takeConflict.settle := by
  unfold State.takeConflict
  have same : s.panel.Follows u.panel := .of_same (by rw [hpanel]) (by rw [hpanel])
  split
  · exact .settled (same.trans (.of_same rfl rfl)) (.inl hholdOff)
  · exact .settled (same.trans (.of_same rfl rfl)) (.inr ⟨rfl, by simp⟩)
  all_goals exact .settled same (.inl hholdOff)

theorem acceptFrame_displayed (f : List Byte) (hu : ∃ l, u = { s with link := l }) :
    Displayed s c (u.acceptFrame f) := by
  obtain ⟨l, rfl⟩ := hu
  have kept : s.Follows (State.becomeBusy { s with link := l }) := .of_same rfl rfl rfl rfl
  unfold State.acceptFrame
  dsimp only
  split_ifs
  · exact compareTestFrame_displayed f rfl rfl
  · by_cases hother : frameSender f = s.settings.station
    · have hconflict : (State.becomeBusy { s with link := l }).dispatch f =
          (State.becomeBusy { s with link := l }).takeConflict := if_pos hother
      rw [hconflict]
      exact takeConflict_displayed rfl rfl
    · exact .of_follows (kept.trans (State.dispatch_follows _ hother))
  · exact .of_kept ⟨rfl, rfl, rfl⟩ rfl (fun _ => rfl) rfl rfl

theorem validate_displayed (m : Image) (hu : s.Follows u) : Displayed s c (u.validate m).settle := by
  unfold State.validate
  have halted (r : ImageResult) : Displayed s c ((u.withResult r).enterHalted .config).settle := by
    have h : s.Follows (u.withResult r) := hu.trans (.of_same rfl rfl rfl rfl)
    obtain ⟨-, hpanel, ns, hchannel, -⟩ := h
    refine .settled hpanel (.inl ?_)
    show (u.withResult r).channel.holdOff = _
    rw [hchannel, ChannelAccess.queueNotices_eq]
  split_ifs
  · exact halted _
  · exact halted _
  · have valid : s.Follows (u.withResult (.valid (takesDefaults m))) := hu.trans (.of_same rfl rfl rfl rfl)
    obtain ⟨-, hpanel, ns, hchannel, -⟩ := valid.trans (State.handSettings_follows _ m)
    refine .settled (by simpa using hpanel) (.inl ?_)
    rw [State.enterSelfTest_channel, hchannel, ChannelAccess.queueNotices_eq]

/-- Every effect settles, or leaves the display alone, or is one of the four that act on the transfers. -/
theorem Effect.displayed (h : Effect s c t) : Displayed s c t := by
  have same (u : State) (hstation : u.station = s.station) (hchannel : u.channel = s.channel)
      (hfields : u.panel.fields = s.panel.fields) (htransfer : u.panel.transfer = s.panel.transfer) :
      Displayed s c u.settle := .of_follows (.of_same hstation hchannel hfields htransfer)
  have stopped (k : Key) : s.Follows (s.stopDebounce k) := .of_same rfl rfl rfl rfl
  cases h with
  | reset cause _ => exact .reset
  | accepted x _ => exact .accepted
  | failed _ => exact .failed
  | retried _ => exact .retried
  -- the settling of a state with other values
  | release hreset => exact .settled (.of_same rfl rfl) (.inl rfl)
  | readEnd _ => exact .settled (.of_same rfl rfl) (.inl rfl)
  | selfTestEnd _ => exact .settled (.of_same rfl rfl) (.inl rfl)
  | joined _ => exact .settled (.of_same rfl rfl) (.inl rfl)
  | beacon _ => exact .settled (.of_same rfl rfl) (.inl rfl)
  | fallWatched _ _ => exact .settled (.of_same rfl rfl) (.inl rfl)
  | carrierStuck _ => exact .settled (.of_same rfl rfl) (.inl rfl)
  | tareEnd _ _ => exact same _ rfl rfl rfl rfl
  | truckLost n _ => exact same _ rfl rfl rfl rfl
  | loaderQuiet n _ => exact same _ rfl rfl rfl rfl
  | loaderLost n _ => exact same _ rfl rfl rfl rfl
  | loaderRemoved n _ => exact same _ rfl rfl rfl rfl
  | shift _ => exact same _ rfl rfl rfl rfl
  | csInResumes _ =>
    unfold State.endStall
    split_ifs
    · exact .settled (.of_same rfl rfl) (.inl rfl)
    · exact same _ rfl rfl rfl rfl
  | stalled _ =>
    unfold State.reportStall
    split_ifs <;> exact .settled (.of_same rfl rfl) (.inl rfl)
  -- the settling of what a shared operation makes
  | image m _ _ => exact validate_displayed m (.of_same rfl rfl rfl rfl)
  | skipped f _ _ => exact .of_handOn _ _ (.of_same rfl rfl rfl rfl)
  | scanEnd f _ _ => exact .of_handOn _ _ (.of_same rfl rfl rfl rfl)
  | timeout f _ _ => exact .of_handOn _ _ (.of_same rfl rfl rfl rfl)
  | truckRemoved n e _ _ => exact .of_follows (s.truckRemoved_follows e)
  | frameTaken x rest f _ _ _ => exact acceptFrame_displayed f ⟨_, rfl⟩
  | press k _ _ => exact .of_follows ((stopped k).trans (State.takePress_follows _ k))
  | keyRelease k ignored _ _ => exact .of_follows ((stopped k).trans (State.takeRelease_follows _ k ignored))
  -- the display left alone
  | kept c => exact .refl
  | holdOffIdle fell hdue hhead =>
    refine .unshown ⟨rfl, rfl, rfl⟩ rfl (fun _ => rfl) (fun _ _ hqueue => ?_) (.inr ⟨rfl, .inr (.inr ⟨fell, rfl, hdue⟩)⟩)
    obtain ⟨hnotices, hparts⟩ := s.channel.takeHead_eq_none_iff.mp hhead
    simp [ChannelAccess.queueEmpty, hnotices, hparts] at hqueue
  | frameHanded fell body channel hdue hhead =>
    exact .unshown ⟨rfl, rfl, rfl⟩ rfl (fun _ => rfl) (fun _ _ _ hline => by simp at hline)
      (.inr ⟨rfl, .inr (.inr ⟨fell, rfl, hdue⟩)⟩)
  | riseWatched hlow _ _ =>
    exact .unshown ⟨rfl, rfl, rfl⟩ rfl (fun _ => rfl) (fun _ _ _ _ hcd => by simp [State.watchCarrier] at hcd)
      (.inr ⟨rfl, .inr (.inl ⟨rfl, hlow⟩)⟩)
  | riseUnwatched _ _ =>
    exact .unshown ⟨rfl, rfl, rfl⟩ rfl (fun _ => rfl) (fun _ _ _ _ hcd => by simp at hcd) (.inl rfl)
  | fallUnwatched _ hoff =>
    exact .unshown ⟨rfl, rfl, rfl⟩ rfl (fun _ => rfl) (fun _ hactive => by
      have : s.station = .active := hactive
      simp [this, StationState.onFace] at hoff) (.inl rfl)
  | delayEnd hdue =>
    have hdelaying : s.weigh.state = .delaying := by simp_all [State.delayTimerDue]
    exact .of_kept ⟨rfl, rfl, rfl⟩ rfl
      (fieldText_withWeigh s _ rfl (by rw [WeighUnit.available, WeighUnit.available, hdelaying]; rfl)) rfl rfl
  | byteTaken x rest _ _ _ =>
    unfold State.discardOnGap
    split_ifs <;> exact .of_kept ⟨rfl, rfl, rfl⟩ rfl (fun _ => rfl) rfl rfl
  | gap =>
    unfold State.discardOnGap
    split_ifs
    · exact .of_kept ⟨rfl, rfl, rfl⟩ rfl (fun _ => rfl) rfl rfl
    · exact .refl
  | looped fell f _ _ _ =>
    unfold State.loopedCharacterSent
    dsimp only
    split_ifs <;> exact .of_kept ⟨rfl, rfl, rfl⟩ rfl (fun _ => rfl) rfl rfl
  | sent fell f _ _ _ =>
    unfold State.lineCharacterSent
    split_ifs
    · exact .of_kept ⟨rfl, rfl, rfl⟩ rfl (fun _ => rfl) rfl rfl
    · exact .settled (.of_same rfl rfl) (.inl rfl)
  | _ => exact .of_kept ⟨rfl, rfl, rfl⟩ rfl (fun _ => rfl) rfl rfl

end

/-! ## The display stays current -/

theorem DisplayCurrent.length {s : State} (hs : s.DisplayCurrent) : 16 ≤ s.panel.fields.length := by
  have h15 := hs 15 (by norm_num)
  by_contra hshort
  rw [List.getElem?_eq_none (by omega)] at h15
  cases h15

theorem State.startTransfer_displayCurrent {s : State} (hs : s.DisplayCurrent) : s.startTransfer.DisplayCurrent := by
  obtain ⟨fields, transfer, hframe⟩ := s.startTransfer_frame
  have htexts := s.startTransfer_texts
  rw [hframe] at htexts ⊢
  refine displayCurrent_recell s fields transfer s.channel.holdOff fun i hi => ?_
  rw [← List.getElem?_map, htexts, List.getElem?_map]
  exact hs i hi

/-- The same texts in the cells, and the same texts supplied. -/
theorem DisplayCurrent.of_texts {s t : State} (hs : s.DisplayCurrent)
    (hfields : t.panel.fields.map (·.text) = s.panel.fields.map (·.text)) (htexts : ∀ i, fieldText t i = fieldText s i) :
    t.DisplayCurrent := by
  intro i hi
  rw [← List.getElem?_map, hfields, List.getElem?_map, htexts]
  exact hs i hi

theorem failed_displayCurrent {s : State} (hs : s.DisplayCurrent) :
    State.DisplayCurrent { s with panel := s.panel.failed s.partTime } := by
  refine displayCurrent_recell
    { s with panel := { s.panel with displayFault := true, retryPause := some ⟨s.partTime, 1000⟩ } }
    (allPending s.panel.fields) none s.channel.holdOff fun i hi => ?_
  rw [allPending, List.getElem?_map, Option.map_map]
  exact hs i hi

theorem Effect.keeps_displayCurrent {s t : State} {c : Instr} (h : Effect s c t) (hs : s.DisplayCurrent) :
    t.DisplayCurrent := by
  have hlength := DisplayCurrent.length hs
  cases h.displayed with
  | settled hpanel _ => exact State.settle_displayCurrent _ (hpanel.length ▸ hlength)
  | unshown hpanel _ htexts _ _ => exact DisplayCurrent.of_texts hs (by rw [hpanel.1]) htexts
  | reset => exact DisplayCurrent.of_texts State.reset_displayCurrent rfl fun _ => rfl
  | accepted =>
    exact State.startTransfer_displayCurrent (DisplayCurrent.of_texts hs rfl fun _ => rfl)
  | failed => exact failed_displayCurrent hs
  | retried =>
    exact State.startTransfer_displayCurrent (DisplayCurrent.of_texts hs rfl fun _ => rfl)

/-! ## Transfers and the hold-off keep running -/

theorem Effect.keeps_transfersRun {s t : State} {c : Instr} (h : Effect s c t) (hs : s.TransfersRun) :
    t.TransfersRun := by
  cases h.displayed with
  | settled _ _ => exact State.settle_transfersRun _
  | unshown hpanel hstation _ _ _ =>
    obtain ⟨hfields, htransfer, hpause⟩ := hpanel
    simpa only [State.TransfersRun, hfields, htransfer, hpause, hstation] using hs
  | reset => exact fun hrun => absurd rfl hrun
  | accepted => exact State.startTransfer_transfersRun _
  | failed => exact fun _ _ => .inr rfl
  | retried => exact State.startTransfer_transfersRun _

theorem Effect.keeps_holdOffRuns {s t : State} {c : Instr} (h : Effect s c t) (hs : s.HoldOffRuns) :
    t.HoldOffRuns := by
  cases h.displayed with
  | settled _ _ => exact State.settle_holdOffRuns _
  | unshown _ _ _ hruns _ => exact hruns hs
  | reset => exact fun hactive => by cases hactive
  | accepted => simpa [State.HoldOffRuns] using hs
  | failed => exact hs
  | retried => simpa [State.HoldOffRuns] using hs

/-! ## One command's cells, transfer and hold-off timer -/

section
variable {s t : State} {c : Instr}

theorem Displayed.cell (h : Displayed s c t) {i : Nat} {before after : FieldCell} (hbefore : s.panel.fields[i]? = some before)
    (hafter : t.panel.fields[i]? = some after) (hchange : before.text ≠ after.text ∨ before.pending = true) :
    after.pending = true ∨ ((s.panel.transfer = none ∨ c = .accept) ∧
      ∃ x, t.panel.transfer = some x ∧ x.field = i ∧ x.text = after.text) := by
  cases h with
  | settled hpanel _ =>
    have hfollows := hpanel.trans (State.settle_panelFollows _)
    exact (hfollows.cell i before after hbefore hafter hchange).imp_right fun ⟨hnone, hx⟩ => ⟨.inl hnone, hx⟩
  | unshown hpanel _ _ _ _ =>
    rw [hpanel.1, hbefore] at hafter
    cases hafter
    exact .inl (hchange.resolve_left fun h => h rfl)
  | reset =>
    obtain ⟨text, -, rfl⟩ := List.mem_map.mp (List.mem_of_getElem? hafter)
    exact .inl rfl
  | accepted =>
    have hfollows := State.startTransfer_follows { s with panel := s.panel.accepted }
    exact (hfollows.cell i before after hbefore hafter hchange).imp_right fun ⟨_, hx⟩ => ⟨.inr rfl, hx⟩
  | failed =>
    obtain ⟨cell, -, rfl⟩ := List.mem_map.mp (List.mem_of_getElem? hafter)
    exact .inl rfl
  | retried =>
    have hfollows := State.startTransfer_follows { s with panel := { s.panel with retryPause := none } }
    exact (hfollows.cell i before after hbefore hafter hchange).imp_right fun ⟨hnone, hx⟩ => ⟨.inl hnone, hx⟩

theorem Displayed.transfer_kept (h : Displayed s c t) {x : Transfer} (hx : s.panel.transfer = some x) (haccept : c ≠ .accept)
    (hexpiry : c ≠ .acceptanceTimerExpiry) (hreset : ∀ cause, c ≠ .deviceReset cause) : t.panel.transfer = some x := by
  cases h with
  | settled hpanel _ => exact (hpanel.trans (State.settle_panelFollows _)).transfer x hx
  | unshown hpanel _ _ _ _ => exact hpanel.2.1.trans hx
  | reset => exact absurd rfl (hreset _)
  | accepted => exact absurd rfl haccept
  | failed => exact absurd rfl hexpiry
  | retried => exact (State.startTransfer_follows { s with panel := { s.panel with retryPause := none } }).transfer x hx

theorem Displayed.holdOff_started (h : Displayed s c t) {tm : Timer} (htm : t.channel.holdOff = some tm) :
    s.channel.holdOff = some tm ∨ (s.channel.holdOff = none ∧ t.station = .active ∧ tm = ⟨t.partTime,
      10 + 4 * t.roster.countP fun e => decide (e.state = .live ∧ e.loader < t.settings.station)⟩) := by
  cases h with
  | settled _ hholdOff =>
    rw [State.settle_holdOff, State.settledHoldOff] at htm
    split_ifs at htm with hstarts
    · obtain ⟨hactive, -, -, -, hnone⟩ := hstarts
      obtain hsame | ⟨-, hleft⟩ := hholdOff
      · cases htm
        exact .inr ⟨hsame.symm.trans hnone, by simpa using hactive, by simp⟩
      · exact absurd hactive hleft
    · obtain hsame | ⟨hnone, -⟩ := hholdOff
      · exact .inl (hsame.symm.trans htm)
      · rw [hnone] at htm
        cases htm
  | unshown _ _ _ _ hholdOff =>
    obtain hsame | ⟨hnone, -⟩ := hholdOff
    · exact .inl (hsame.symm.trans htm)
    · rw [hnone] at htm
      cases htm
  | reset => cases htm
  | accepted => exact .inl (by simpa using htm)
  | failed => exact .inl htm
  | retried => exact .inl (by simpa using htm)

theorem Displayed.holdOff_stopped (h : Displayed s c t) {tm : Timer} (htm : s.channel.holdOff = some tm) :
    t.channel.holdOff = some tm ∨ (t.channel.holdOff = none ∧ (t.station ≠ .active ∨
      (c = .carrierRise ∧ s.pins.cdIn = false) ∨
        ∃ fell, c = .holdOffExpiry fell ∧ tm.run ≤ (s.partTime - tm.start).toNat)) := by
  cases h with
  | settled _ hholdOff =>
    rw [State.settle_holdOff, State.settledHoldOff]
    obtain hsame | ⟨hnone, hleft⟩ := hholdOff
    · exact .inl (by simp [hsame, htm])
    · exact .inr ⟨by simp [hnone, hleft], .inl (by simpa using hleft)⟩
  | unshown _ _ _ _ hholdOff =>
    obtain hsame | ⟨hnone, hreason⟩ := hholdOff
    · exact .inl (hsame.trans htm)
    · refine .inr ⟨hnone, hreason.imp_right fun h => h.imp_right fun ⟨fell, hc, hdue⟩ => ⟨fell, hc, ?_⟩⟩
      simp only [State.holdOffDue, htm, timerDue_some, Bool.and_eq_true, decide_eq_true_eq] at hdue
      exact hdue.2
  | reset => exact .inr ⟨rfl, .inl (by simp [State.held, State.reset])⟩
  | accepted => exact .inl (by simpa using htm)
  | failed => exact .inl htm
  | retried => exact .inl (by simpa using htm)

end

theorem State.startTransfer_of_running {s : State} (hrun : s.station ≠ .reset) :
    s.startTransfer = { s with panel := s.panel.startTransfer s.partTime } := if_neg hrun

/-- Settles O60: every command settles or leaves the display alone, and the handing of texts starts the transfer of the
first pending cell. -/
theorem stepKeepsTransfersRunning : Obligations.StepKeepsTransfersRunning := by
  refine ⟨fun s t hstep => ⟨fun hs => ?_, fun hs => ?_⟩, fun c s t hexec => ?_, fun handed s hrun => ⟨fun hbusy => ?_, ?_⟩,
    fun s => ⟨?_, rfl⟩⟩
  · exact step_keeps (fun _ _ _ heffect => heffect.keeps_transfersRun) (fun _ _ _ h => h)
      (fun _ _ h => by simpa [State.TransfersRun] using h) hs hstep
  · exact step_keeps (fun _ _ _ heffect => heffect.keeps_holdOffRuns) (fun _ _ _ h => h)
      (fun _ _ h => by simpa [State.HoldOffRuns] using h) hs hstep
  · have hdisplayed := (effect_of_exec hexec).displayed
    exact ⟨fun _ _ _ hbefore hafter hchange => hdisplayed.cell hbefore hafter hchange,
      fun _ hx haccept hexpiry hreset => hdisplayed.transfer_kept hx haccept hexpiry hreset,
      fun _ => hdisplayed.holdOff_started, fun _ => hdisplayed.holdOff_stopped⟩
  · rw [State.handWhere_eq, State.startTransfer_of_running (by exact hrun)]
    exact congrArg (fun p => { s with panel := p })
      (CabPanel.startTransfer_of_busy (p := { s.panel with fields := s.handedCells handed }) hbusy)
  · intro before after a htransfer hpause hcells ha hbefore
    rw [State.handWhere_eq, State.startTransfer_of_running (by exact hrun)]
    exact congrArg (fun p => { s with panel := p })
      (CabPanel.startTransfer_of_first (p := { s.panel with fields := s.handedCells handed })
        htransfer hpause hcells ha hbefore)
  · rw [State.settle, State.startHoldOff_eq]
    rfl

end Sys2Proof.Machine
end


section
/-! The sixteen texts, each as chapter 9 gives it (R155). -/

namespace Sys2Proof.Machine

/-! ## Numbers -/

theorem decimal_of_lt {n : Nat} (h : n < 10) : decimal n = [BitVec.ofNat 8 (0x30 + n)] := by
  simp [decimal, digits, h, byteOf]

/-- More digits than the number has do not change its text. -/
theorem digits_succ (fuel n : Nat) (h : n < 10 ^ (fuel + 1)) : digits (fuel + 2) n = digits (fuel + 1) n := by
  induction fuel generalizing n with
  | zero => simp [digits, show n < 10 by simpa using h]
  | succ fuel ih =>
    have hunfold (k : Nat) : digits (k + 1) n =
        if n < 10 then [byteOf (48 + n)] else digits k (n / 10) ++ [byteOf (48 + n % 10)] := rfl
    rw [hunfold, hunfold]
    by_cases hn : n < 10
    · rw [if_pos hn, if_pos hn]
    · rw [if_neg hn, if_neg hn, ih (n / 10) (by rw [pow_succ] at h; omega)]

theorem decimal_of_le {n : Nat} (hlow : 10 ≤ n) (hhigh : n < 10 ^ 20) :
    decimal n = decimal (n / 10) ++ [BitVec.ofNat 8 (0x30 + n % 10)] := by
  have hdigits : digits 20 (n / 10) = digits 19 (n / 10) := digits_succ 18 (n / 10) (by omega)
  unfold decimal
  rw [hdigits, digits, if_neg (by omega)]
  rfl

theorem tonnes_of_lt {n : Nat} (h : n < 10) : tonnes n = textOf ['0', '.', '0'] := by
  have h100 : n / 100 = 0 := by omega
  have h10 : n / 10 % 10 = 0 := by omega
  rw [tonnes, h100, h10]
  rfl

theorem signedTonnes_of_pos {n : Nat} (h : 0 < n) : signedTonnes n = textOf ['+'] ++ tonnes n := by
  have hpos : ¬ ((n : Int) ≤ 0 ∧ (n : Int).natAbs < 10) := by omega
  have hsign : decide (0 < (n : Int)) = true := by simpa using h
  unfold signedTonnes
  dsimp only
  rw [if_neg hpos, if_pos hsign]
  rfl

theorem signedTonnes_of_neg {n : Nat} (h : 10 ≤ n) : signedTonnes (-n) = textOf ['-'] ++ tonnes n := by
  have hneg : ¬ (-(n : Int) ≤ 0 ∧ (-(n : Int)).natAbs < 10) := by omega
  have hsign : ¬ decide (0 < -(n : Int)) = true := by simp
  unfold signedTonnes
  dsimp only
  rw [if_neg hneg, if_neg hsign, Int.natAbs_neg, Int.natAbs_natCast]

theorem signedTonnes_of_small {n : Nat} (h : n < 10) :
    signedTonnes (-n) = textOf ['+', '0', '.', '0'] ∨ signedTonnes (-n) = textOf ['-', '0', '.', '0'] := by
  have hsmall : -(n : Int) ≤ 0 ∧ (-(n : Int)).natAbs < 10 := by omega
  unfold signedTonnes
  dsimp only
  rw [if_pos hsmall, Int.natAbs_neg, Int.natAbs_natCast, tonnes_of_lt h]
  cases Config.zeroRemainingPlus (-(n : Int)) with
  | true => exact .inl rfl
  | false => exact .inr rfl

/-! ## The texts outside HALTED -/

section
variable {s : State}

theorem fieldText_of_running (hrun : s.station ≠ .halted) (i : Nat) : fieldText s i = padText (suppliedText s i) := by
  rw [fieldText, if_neg hrun]

theorem fieldText_of_halted (hhalted : s.station = .halted) (i : Nat) : fieldText s i = padText (haltedText s i) := by
  rw [fieldText, if_pos hhalted]

theorem State.shownPass_of_held {h : HeldResult} (hheld : s.weigh.held = some h) :
    s.shownPass = some (h.mass, s.fill h.mass, qualityText h.quality) := by
  simp [State.shownPass, hheld]

theorem State.shownPass_of_pass {before : List PassRecord} {p : PassRecord} (hheld : s.weigh.held = none)
    (hpasses : s.cycle.passes = before ++ [p]) :
    s.shownPass = some (p.mass, p.fill, if p.voided then textOf ['V', 'O', 'I', 'D'] else qualityText p.quality) := by
  simp [State.shownPass, hheld, hpasses]

theorem State.shownPass_of_none (hheld : s.weigh.held = none) (hpasses : s.cycle.passes = []) : s.shownPass = none := by
  simp [State.shownPass, hheld, hpasses]

theorem passTexts_of_shown {m f : Option Nat} {q : Text} (hshown : s.shownPass = some (m, f, q)) :
    passMassText s = optionalText m tonnes ∧ fillText s = optionalText f (fun n => decimal n ++ textOf ['%']) ∧
      passQualityText s = q := by
  simp [passMassText, fillText, passQualityText, hshown]

theorem passTexts_of_none (hshown : s.shownPass = none) :
    passMassText s = [] ∧ fillText s = [] ∧ passQualityText s = [] := by
  simp [passMassText, fillText, passQualityText, hshown]

theorem receivingText_of_some {n : Nat} (hreceiving : s.trucks.pin.or s.trucks.queue.head? = some n) :
    receivingText s = textOf ['T'] ++ decimal n ++ if s.trucks.pin = none then [] else textOf [' ', 'P', 'I', 'N'] := by
  rw [receivingText, TruckTable.receiving, hreceiving]
  cases s.trucks.pin <;> rfl

theorem receivingText_of_none (hreceiving : s.trucks.pin.or s.trucks.queue.head? = none) :
    receivingText s = textOf ['N', 'O', ' ', 'T', 'R', 'U', 'C', 'K'] := by
  rw [receivingText, TruckTable.receiving, hreceiving]

theorem receivingEntry_of_none (hreceiving : s.trucks.pin.or s.trucks.queue.head? = none) :
    s.trucks.receivingEntry = none := by
  rw [TruckTable.receivingEntry_eq, hreceiving]
  rfl

theorem receivingEntry_of_some {n : Nat} {e : TruckEntry} (hreceiving : s.trucks.pin.or s.trucks.queue.head? = some n)
    (hfind : s.trucks.find n = some e) : s.trucks.receivingEntry = some e := by
  rw [TruckTable.receivingEntry_eq, hreceiving]
  exact hfind

/-- R40. -/
theorem State.approximate_iff (rs : List Contribution) (dropped : Bool) :
    s.approximate rs dropped = true ↔ 0 < (rs.map (·.unweighed)).sum ∨ dropped = true ∨
      (∃ r ∈ rs, r.own = false ∧ ∃ x, rosterFind s.roster r.contributor = some x ∧ x.weighing = some false) ∨
      ((∃ r ∈ rs, r.own = true) ∧ s.weigh.state = .blocked) := by
  have hcannot (r : Contribution) : cannotWeigh s.roster r.contributor = true ↔
      ∃ x, rosterFind s.roster r.contributor = some x ∧ x.weighing = some false := by
    unfold cannotWeigh
    cases rosterFind s.roster r.contributor <;> simp
  simp only [State.approximate, WeighUnit.available, Bool.or_eq_true, Bool.and_eq_true, decide_eq_true_eq,
    List.any_eq_true, Bool.not_eq_true', bne_eq_false_iff_eq, hcannot, or_assoc]
  exact Iff.rfl

section
variable {e : TruckEntry} (hentry : s.trucks.receivingEntry = some e)
include hentry

theorem payloadText_of_entry : payloadText s = tonnes (totalMass (s.receivingRecords e)) ++
    if s.approximate (s.receivingRecords e) e.peerDropped then textOf ['~'] else [] := by
  simp [payloadText, hentry]

theorem targetText_of_entry : targetText s = if e.target = 0 then threeDashes else tonnes e.target := by
  simp [targetText, hentry]

theorem remainingText_of_zero (htarget : e.target = 0) : remainingText s = threeDashes := by
  simp [remainingText, hentry, remainingMass, htarget]

theorem remainingText_of_target (htarget : e.target ≠ 0) :
    remainingText s = signedTonnes ((e.target : Int) - totalMass (s.receivingRecords e)) := by
  simp [remainingText, hentry, remainingMass, htarget]

theorem truckPassesText_of_entry : truckPassesText s =
    decimal (totalPasses (s.receivingRecords e)) ++ textOf ['/'] ++ decimal (ownPasses (s.receivingRecords e)) := by
  simp [truckPassesText, hentry]

theorem partnerText_of_alone (hlist : ∀ l ∈ e.spottedAt, l = s.settings.station) : partnerText s = twoDashes := by
  have hpartner : s.partner = none := by
    simpa [State.partner, hentry] using hlist
  rw [partnerText, hpartner]

theorem partnerText_of_partner {l : Nat} (hlist : e.spottedAt.find? (· != s.settings.station) = some l) :
    partnerText s = decimal l ++ partnerMark s l := by
  have hpartner : s.partner = some l := by
    simpa [State.partner, hentry] using hlist
  rw [partnerText, hpartner]

end

theorem partnerMark_of_same {l : Nat} {x : RosterEntry} (hfind : rosterFind s.roster l = some x) (hlive : x.state = .live)
    (hsame : ∀ t, x.receiving = some t → t = s.trucks.receiving) : partnerMark s l = [] := by
  simp only [partnerMark, hfind, hlive]
  cases hreceiving : x.receiving with
  | none => rfl
  | some t => simp [hsame t hreceiving]

theorem partnerMark_of_other {l : Nat} {x : RosterEntry} {t : Option Nat} (hfind : rosterFind s.roster l = some x)
    (hlive : x.state = .live) (hreceiving : x.receiving = some t) (hother : t ≠ s.trucks.receiving) :
    partnerMark s l = textOf ['*'] := by
  simp [partnerMark, hfind, hlive, hreceiving, hother]

theorem partnerMark_of_unsure {l : Nat} (h : ∀ x, rosterFind s.roster l = some x → x.state ≠ .live) :
    partnerMark s l = textOf ['?'] := by
  unfold partnerMark
  cases hfind : rosterFind s.roster l with
  | none => rfl
  | some x =>
    have hstate := h x hfind
    cases hx : x.state with
    | live => exact absurd hx hstate
    | quiet => simp [hx]
    | lost => simp [hx]

theorem lastLoadText_of_newest {before after : List ClosedLoad} {c : ClosedLoad} (hlog : s.tally.log = before ++ c :: after)
    (hc : 0 < c.ownPasses) (hafter : ∀ d ∈ after, d.ownPasses = 0) :
    lastLoadText s = decimal c.truck ++ textOf [':'] ++ tonnes c.ownMass := by
  have hfind : s.tally.log.reverse.find? (fun c => decide (0 < c.ownPasses)) = some c := by
    refine List.find?_eq_some_iff_append.mpr ⟨by simpa using hc, after.reverse, before.reverse, by simp [hlog], ?_⟩
    simpa using hafter
  simp [lastLoadText, hfind]

theorem lastLoadText_of_none (hlog : ∀ c ∈ s.tally.log, c.ownPasses = 0) : lastLoadText s = threeDashes := by
  have hfind : s.tally.log.reverse.find? (fun c => decide (0 < c.ownPasses)) = none := by simpa using hlog
  simp [lastLoadText, hfind]

end

/-! ## The statement -/

theorem stationField (s : State) : fieldText s 0 = padText (stationText s.station) := by
  unfold fieldText
  split_ifs with hhalted
  · rw [hhalted]
    rfl
  · rfl

/-- Settles O59: a command settles or leaves the texts alone; the texts themselves are those of chapter 9, field by
field. -/
theorem stepKeepsTheDisplayCurrent : Obligations.StepKeepsTheDisplayCurrent := by
  refine ⟨fun s t hs hstep => ?_, ⟨fun _ => decimal_of_lt, fun _ => decimal_of_le, fun _ => rfl, fun _ => rfl⟩, fun s => ?_⟩
  · exact step_keeps (fun _ _ _ heffect => heffect.keeps_displayCurrent) (fun _ _ _ h => h)
      (fun _ _ h => DisplayCurrent.of_texts h rfl fun _ => rfl) hs hstep
  intro pad shows dashes quality mass fill receiving
  refine ⟨?_, fun hhalted => ?_, fun hrun => ?_⟩
  · refine (stationField s).trans (congrArg padText ?_)
    cases s.station <;> rfl
  · have text (i : Nat) {x : Text} (hx : haltedText s i = x) : shows i x := by
      rw [← hx]
      exact fieldText_of_halted hhalted i
    refine ⟨fun hreason => text 1 ?_, fun hreason => text 1 ?_, fun i hlow _ => text i ?_⟩
    · simp [haltedText, haltText, hreason]
    · simp [haltedText, haltText, hreason]
    · match i, hlow with
      | i + 2, _ => rfl
  have text (i : Nat) {x : Text} (hx : suppliedText s i = x) : shows i x := by
    rw [← hx]
    exact fieldText_of_running hrun i
  have hmass (m : Option Nat) : optionalText m tonnes = mass m := by cases m <;> rfl
  have hfill (f : Option Nat) : optionalText f (fun n => decimal n ++ textOf ['%']) = fill f := by cases f <;> rfl
  have hquality (q : Quality) : qualityText q = quality q := by cases q <;> rfl
  refine ⟨fun h hheld => ?_, fun before p hheld hpasses => ?_, fun hheld hpasses => ?_,
    fun n hreceiving => text 5 (receivingText_of_some hreceiving), fun hnone => ?_, fun n e hreceiving hfind => ?_,
    text 11 rfl, text 12 rfl, fun before after c hlog hc hafter => text 13 (lastLoadText_of_newest hlog hc hafter),
    fun hlog => text 13 (lastLoadText_of_none hlog), fun x hx => text 14 ?_, fun hx => text 14 ?_, text 15 rfl⟩
  · obtain ⟨hmassText, hfillText, hqualityText⟩ := passTexts_of_shown (State.shownPass_of_held hheld)
    exact ⟨text 2 (hmassText.trans (hmass _)), text 3 (hfillText.trans (hfill _)), text 4 (hqualityText.trans (hquality _))⟩
  · obtain ⟨hmassText, hfillText, hqualityText⟩ := passTexts_of_shown (State.shownPass_of_pass hheld hpasses)
    rw [hquality] at hqualityText
    exact ⟨text 2 (hmassText.trans (hmass _)), text 3 (hfillText.trans (hfill _)), text 4 hqualityText⟩
  · obtain ⟨hmassText, hfillText, hqualityText⟩ := passTexts_of_none (State.shownPass_of_none hheld hpasses)
    exact ⟨text 2 hmassText, text 3 hfillText, text 4 hqualityText⟩
  · have hentry := receivingEntry_of_none hnone
    refine ⟨text 5 (receivingText_of_none hnone), text 6 ?_, text 7 ?_, text 8 ?_, text 9 ?_, text 10 ?_⟩
    · simp [suppliedText, payloadText, hentry]; rfl
    · simp [suppliedText, targetText, hentry]; rfl
    · simp [suppliedText, remainingText, hentry]; rfl
    · simp [suppliedText, truckPassesText, hentry]; rfl
    · simp [suppliedText, partnerText, State.partner, hentry]; rfl
  · have hentry := receivingEntry_of_some hreceiving hfind
    intro rs total passes approximate
    have hpayload := payloadText_of_entry hentry
    have hremaining := remainingText_of_target hentry
    have happroximate : s.approximate (s.receivingRecords e) e.peerDropped = true ↔ approximate := s.approximate_iff _ _
    refine ⟨fun h => text 6 (hpayload.trans ?_), fun h => text 6 (hpayload.trans ?_), fun hzero => ⟨text 7 ?_, text 8 ?_⟩,
      fun htarget => text 7 ?_, fun hlt => text 8 ((hremaining (by omega)).trans ?_),
      fun htarget hle => text 8 ((hremaining htarget).trans ?_), fun htarget hle hlt => ?_, fun r hr => text 9 ?_,
      fun hnone => text 9 ?_, fun halone => text 10 (partnerText_of_alone hentry halone), fun l hl => ?_⟩
    · rw [if_pos (happroximate.mpr h)]
      rfl
    · rw [if_neg fun happrox => h (happroximate.mp happrox), List.append_nil]
      rfl
    · exact (targetText_of_entry hentry).trans (if_pos hzero)
    · exact remainingText_of_zero hentry hzero
    · exact (targetText_of_entry hentry).trans (if_neg htarget)
    · rw [← signedTonnes_of_pos (by omega)]
      congr 1
      show (e.target : Int) - total = _
      omega
    · rw [← signedTonnes_of_neg (by omega)]
      congr 1
      show (e.target : Int) - total = _
      omega
    · have hsmall : remainingText s = signedTonnes (-((total - e.target : Nat) : Int)) := by
        rw [hremaining htarget]
        congr 1
        show (e.target : Int) - total = _
        omega
      exact (signedTonnes_of_small (by omega)).imp (fun h => text 8 (hsmall.trans h)) fun h => text 8 (hsmall.trans h)
    · refine (truckPassesText_of_entry hentry).trans ?_
      rw [ownPasses, show (s.receivingRecords e).find? (·.own) = some r from hr]
      rfl
    · refine (truckPassesText_of_entry hentry).trans ?_
      rw [ownPasses, show (s.receivingRecords e).find? (·.own) = none from hnone]
      rfl
    · have hpartner := partnerText_of_partner hentry hl
      refine ⟨fun x hx hlive hsame => text 10 (hpartner.trans ?_), fun x t hx hlive ht hother => text 10 (hpartner.trans ?_),
        fun hunsure => text 10 (hpartner.trans ?_)⟩
      · rw [partnerMark_of_same hx hlive hsame, List.append_nil]
      · rw [partnerMark_of_other hx hlive ht hother]
      · rw [partnerMark_of_unsure hunsure]
  · simp [suppliedText, materialText, hx]
  · simp [suppliedText, materialText, hx]

end Sys2Proof.Machine
end


section
/-! The sizes of the tables, queues and buffers: what each shared operation keeps, and so every step. -/

namespace Sys2Proof.Machine

/-! ## The receive FIFO and the frame buffer (R137, R142) -/

/-- The two sizes of `State.LinkBounded`, of the link port. -/
def LinkPort.Bounded (l : LinkPort) : Prop := l.fifo.length ≤ 64 ∧ l.buffer.length ≤ 54

section
variable {l m : LinkPort}

theorem LinkPort.Bounded.of_same (hl : l.Bounded) (hfifo : m.fifo = l.fifo) (hbuffer : m.buffer = l.buffer) :
    m.Bounded := by
  rwa [LinkPort.Bounded, hfifo, hbuffer]

@[simp] theorem LinkPort.characterDue_fifo (l : LinkPort) (now : Instant) (csIn : Bool) :
    (l.characterDue now csIn).fifo = l.fifo := by
  unfold LinkPort.characterDue
  split_ifs <;> rfl

@[simp] theorem LinkPort.characterDue_buffer (l : LinkPort) (now : Instant) (csIn : Bool) :
    (l.characterDue now csIn).buffer = l.buffer := by
  unfold LinkPort.characterDue
  split_ifs <;> rfl

theorem LinkPort.Bounded.resume (hl : l.Bounded) (now : Instant) : (l.resume now).Bounded := by
  unfold LinkPort.resume
  split_ifs
  · exact hl.of_same (by simp) (by simp)
  · exact hl

theorem LinkPort.Bounded.store (hl : l.Bounded) (b : Byte) (gap ownSend : Bool) : (l.store b gap ownSend).Bounded := by
  refine ⟨l.store_length b gap ownSend hl.1, ?_⟩
  unfold LinkPort.store
  split_ifs <;> exact hl.2

theorem LinkPort.released_bounded (l : LinkPort) : l.released.Bounded := by simp [LinkPort.Bounded, LinkPort.released]

theorem LinkPort.Bounded.discard (hl : l.Bounded) : l.discard.Bounded := ⟨hl.1, by simp [LinkPort.discard]⟩

theorem LinkPort.Bounded.keep (hl : l.Bounded) (b : Byte) : (l.keep b).Bounded := by
  unfold LinkPort.keep
  split_ifs with hroom
  · exact ⟨hl.1, by simpa using hroom⟩
  · exact hl

theorem LinkPort.Bounded.treat (hl : l.Bounded) (b : Byte) : (l.treat b).1.Bounded := by
  unfold LinkPort.treat
  split
  · exact hl
  · split_ifs
    · exact hl.discard
    · exact hl
    · exact hl.keep b
  · split_ifs
    · exact hl.discard
    · exact hl.keep _
    · exact hl

theorem LinkPort.Bounded.takeByte (hl : l.Bounded) (x : RxByte) : (l.takeByte x).1.Bounded := by
  unfold LinkPort.takeByte
  split_ifs
  · exact ⟨hl.1, by simp [LinkPort.begin]⟩
  · exact hl
  · exact hl.discard
  · exact LinkPort.Bounded.treat (l := { l with broken := l.broken || x.loss || x.ownSend }) hl x.byte

theorem LinkPort.Bounded.withoutHead (hl : l.Bounded) {x : RxByte} {rest : List RxByte} (hfifo : l.fifo = x :: rest) :
    (l.withoutHead rest).Bounded := by
  obtain ⟨hlength, hbuffer⟩ := hl
  rw [hfifo, List.length_cons] at hlength
  exact ⟨by simp only [LinkPort.withoutHead]; omega, hbuffer⟩

end

section
variable {s t : State} {c : Instr}

theorem State.discardOnGap_link_bounded (hs : s.link.Bounded) : s.discardOnGap.link.Bounded := by
  unfold State.discardOnGap
  split_ifs
  · exact hs.discard
  · exact hs

theorem State.loopedCharacterSent_link_bounded (hs : s.link.Bounded) (f : OnLine) :
    (s.loopedCharacterSent f).link.Bounded := by
  have hreceived : (s.receiveByte (f.characters.getD f.sent 0) false).link.Bounded := hs.store _ _ _
  unfold State.loopedCharacterSent
  dsimp only
  split_ifs
  · exact hreceived.of_same (by simp) (by simp)
  · exact hreceived.of_same (by simp [State.handTestFrame, LinkPort.beginFrame, LinkPort.lineFree])
      (by simp [State.handTestFrame, LinkPort.beginFrame, LinkPort.lineFree])
  · exact hreceived

theorem State.lineCharacterSent_link_bounded (hs : s.link.Bounded) (f : OnLine) :
    (s.lineCharacterSent f).link.Bounded := by
  unfold State.lineCharacterSent
  split_ifs
  · exact hs.of_same (by simp) (by simp)
  · rw [State.settle_link]
    exact hs

theorem State.validate_link_bounded (hs : s.link.Bounded) (m : Image) : (s.validate m).link.Bounded := by
  unfold State.validate
  split_ifs
  · exact s.link.released_bounded
  · exact s.link.released_bounded
  · refine hs.of_same ?_ ?_ <;> simp [State.enterSelfTest, State.handTestFrame, LinkPort.beginFrame]

theorem State.compareTestFrame_link_bounded (hs : s.link.Bounded) (f : List Byte) :
    (s.compareTestFrame f).link.Bounded := by
  unfold State.compareTestFrame State.enterListen
  dsimp only
  split_ifs
  · exact s.link.released_bounded
  · exact s.link.released_bounded
  · exact hs
  · exact s.link.released_bounded

theorem State.acceptFrame_link_bounded (hs : s.link.Bounded) (f : List Byte) : (s.acceptFrame f).link.Bounded := by
  unfold State.acceptFrame
  dsimp only
  split_ifs
  · rw [State.settle_link]
    exact State.compareTestFrame_link_bounded (by exact hs) f
  · rw [State.settle_link, State.dispatch_link]
    exact hs
  · exact hs

theorem Effect.keeps_linkBounded (h : Effect s c t) (hs : s.link.Bounded) : t.link.Bounded := by
  cases h with
  | reset cause _ => exact (by decide : State.reset.LinkBounded)
  | image m _ _ =>
    rw [State.settle_link]
    exact State.validate_link_bounded (by exact hs) m
  | readEnd _ =>
    rw [State.settle_link]
    exact s.link.released_bounded
  | selfTestEnd _ =>
    rw [State.settle_link]
    exact s.link.released_bounded
  | frameHanded fell body channel _ _ => exact hs.of_same (by simp [LinkPort.beginFrame]) (by simp [LinkPort.beginFrame])
  | received x _ _ _ _ => exact hs.store _ _ _
  | framingError x _ _ _ _ => exact hs
  | byteTaken x rest _ hfifo _ =>
    exact State.discardOnGap_link_bounded (by exact (hs.withoutHead hfifo).takeByte x)
  | frameTaken x rest f _ hfifo _ =>
    exact State.acceptFrame_link_bounded (by exact (hs.withoutHead hfifo).takeByte x) f
  | gap => exact State.discardOnGap_link_bounded hs
  | blocksDone => exact hs
  | looped fell f _ _ _ => exact State.loopedCharacterSent_link_bounded (by exact hs) f
  | sent fell f _ _ _ => exact State.lineCharacterSent_link_bounded (by exact hs) f
  | csInResumes _ =>
    rw [State.settle_link, State.endStall]
    split_ifs <;> exact hs.resume s.now
  | stalled _ =>
    rw [State.settle_link, State.endOwnFrame_link, State.reportStall]
    split_ifs <;> exact hs
  | _ => simpa using hs

end

/-! ## The transmit queue (R123, R125, R126) -/

/-- The sizes and keys of `State.QueueBounded`, of channel access. -/
def ChannelAccess.Bounded (c : ChannelAccess) : Prop :=
  c.notices.length ≤ 4 ∧ (c.notices.map fun n => (n.slot.truck, n.slot.epoch)).Nodup ∧
    c.parts.length ≤ 2 ∧ ∀ p ∈ c.parts, ∀ q ∈ c.parts, p.sequence = q.sequence

section
variable {c d : ChannelAccess}

theorem ChannelAccess.Bounded.of_same (hc : c.Bounded) (hnotices : d.notices = c.notices) (hparts : d.parts = c.parts) :
    d.Bounded := by
  rwa [ChannelAccess.Bounded, hnotices, hparts]

theorem ChannelAccess.bounded_of_empty (hnotices : d.notices = []) (hparts : d.parts = []) : d.Bounded := by
  simp [ChannelAccess.Bounded, hnotices, hparts]

/-- A notice takes the place of the one with its key, and otherwise brings a new key. -/
theorem ChannelAccess.queueNotice_nodup (hc : (c.notices.map fun n => (n.slot.truck, n.slot.epoch)).Nodup) (n : Notice) :
    ((c.queueNotice n).notices.map fun n => (n.slot.truck, n.slot.epoch)).Nodup := by
  unfold ChannelAccess.queueNotice
  dsimp only
  split
  · have hkeys : (c.notices.map fun q => if q.slot.truck == n.slot.truck && q.slot.epoch == n.slot.epoch then n else q).map
        (fun n => (n.slot.truck, n.slot.epoch)) = c.notices.map fun n => (n.slot.truck, n.slot.epoch) := by
      rw [List.map_map]
      refine List.map_congr_left fun q _ => ?_
      simp only [Function.comp]
      split_ifs with hsame
      · simp only [Bool.and_eq_true, beq_iff_eq] at hsame
        rw [hsame.1, hsame.2]
      · rfl
    rwa [hkeys]
  next hnew =>
    have hnew : (n.slot.truck, n.slot.epoch) ∉ c.notices.map fun n => (n.slot.truck, n.slot.epoch) := by
      simpa using hnew
    split
    · rw [List.map_append]
      exact hc.append (List.nodup_singleton _) (List.disjoint_singleton.mpr hnew)
    · rw [List.map_append, List.map_drop]
      exact (hc.sublist (List.drop_sublist 1 _)).append (List.nodup_singleton _)
        (List.disjoint_singleton.mpr fun h => hnew (List.mem_of_mem_drop h))

theorem ChannelAccess.Bounded.queueNotice (hc : c.Bounded) (n : Notice) : (c.queueNotice n).Bounded := by
  obtain ⟨hlength, hkeys, hparts, hsequence⟩ := hc
  refine ⟨c.queueNotice_length n hlength, ChannelAccess.queueNotice_nodup hkeys n, ?_⟩
  rw [c.queueNotice_eq n]
  exact ⟨hparts, hsequence⟩

theorem ChannelAccess.Bounded.queueNotices (hc : c.Bounded) (ns : List Notice) :
    (ns.foldl ChannelAccess.queueNotice c).Bounded := by
  induction ns generalizing c with
  | nil => exact hc
  | cons n ns ih => exact ih (hc.queueNotice n)

theorem ChannelAccess.Bounded.takeHead (hc : c.Bounded) {station : Nat} {body : List Byte}
    (hhead : c.takeHead station = some (body, d)) : d.Bounded := by
  obtain ⟨hlength, hkeys, hparts, hsequence⟩ := hc
  unfold ChannelAccess.takeHead at hhead
  split at hhead
  · next n ns _ hnotices =>
    cases hhead
    rw [hnotices] at hlength hkeys
    exact ⟨by simp at hlength ⊢; omega, (List.nodup_cons.mp hkeys).2, hparts, hsequence⟩
  · next p ps hnotices hps =>
    cases hhead
    refine ⟨hlength, hkeys, by simp [hps] at hparts ⊢; omega, fun a ha b hb => ?_⟩
    exact hsequence a (by simp [hps, ha]) b (by simp [hps, hb])
  · cases hhead

end

section
variable {s t u : State} {c : Instr}

theorem State.Follows.keeps_bounded (h : s.Follows t) (hs : s.channel.Bounded) : t.channel.Bounded := by
  obtain ⟨-, -, ns, hchannel, -⟩ := h
  rw [hchannel]
  exact hs.queueNotices ns

@[simp] theorem State.settle_channel_bounded_iff : s.settle.channel.Bounded ↔ s.channel.Bounded := by
  simp [ChannelAccess.Bounded]

theorem State.settle_channel_bounded (hs : s.channel.Bounded) : s.settle.channel.Bounded :=
  State.settle_channel_bounded_iff.mpr hs

/-- A new beacon has at most two parts, all of its sequence (R122). -/
theorem State.beaconParts_bounded (s : State) (sequence : Byte) :
    (s.beaconParts sequence).length ≤ 2 ∧ ∀ p ∈ s.beaconParts sequence, p.sequence = sequence := by
  unfold State.beaconParts
  dsimp only
  split_ifs <;> simp

theorem State.buildBeacon_channel_bounded (hs : s.channel.Bounded) : s.buildBeacon.channel.Bounded := by
  obtain ⟨hlength, hkeys, -, -⟩ := hs
  obtain ⟨hparts, hsequence⟩ := s.beaconParts_bounded (s.channel.beaconSequence + 1)
  exact ⟨hlength, hkeys, hparts, fun p hp q hq => (hsequence p hp).trans (hsequence q hq).symm⟩

theorem State.takeConflict_channel_bounded (hs : s.channel.Bounded) : s.takeConflict.channel.Bounded := by
  unfold State.takeConflict
  split
  case h_2 => exact ChannelAccess.bounded_of_empty rfl rfl
  all_goals exact hs

theorem State.compareTestFrame_channel_bounded (hs : s.channel.Bounded) (f : List Byte) :
    (s.compareTestFrame f).channel.Bounded := by
  unfold State.compareTestFrame State.enterListen
  dsimp only
  split_ifs
  · exact hs.of_same rfl rfl
  all_goals exact hs

theorem State.acceptFrame_channel_bounded (hs : s.channel.Bounded) (f : List Byte) :
    (s.acceptFrame f).channel.Bounded := by
  unfold State.acceptFrame
  dsimp only
  split_ifs
  · exact State.settle_channel_bounded (State.compareTestFrame_channel_bounded (by exact hs) f)
  · refine State.settle_channel_bounded ?_
    by_cases hown : frameSender f = s.becomeBusy.settings.station
    · rw [State.dispatch, if_pos hown]
      exact State.takeConflict_channel_bounded (by exact hs)
    · exact (s.becomeBusy.dispatch_follows hown).keeps_bounded hs
  · exact hs

theorem Effect.keeps_channelBounded (h : Effect s c t) (hs : s.channel.Bounded) : t.channel.Bounded := by
  have handedOn (v : State) (scan : Scan) (hv : v.channel.Bounded) : (v.handOn scan).channel.Bounded := by
    obtain ⟨u, hu, hfollows⟩ := v.handOn_eq_settle scan
    rw [hu]
    exact State.settle_channel_bounded (hfollows.keeps_bounded hv)
  cases h with
  | reset cause _ => exact ChannelAccess.bounded_of_empty rfl rfl
  | joined _ =>
    have built := State.buildBeacon_channel_bounded
      (s := { s with station := .active, startup := { s.startup with joinTimer := none } }) hs
    exact State.settle_channel_bounded (built.of_same rfl rfl)
  | skipped f _ _ => exact handedOn _ _ hs
  | scanEnd f _ _ => exact handedOn _ _ hs
  | timeout f _ _ => exact handedOn _ _ hs
  | beacon _ => exact State.settle_channel_bounded (State.buildBeacon_channel_bounded hs)
  | holdOffIdle fell _ _ => exact hs
  | frameHanded fell body channel _ hhead => exact (hs.takeHead hhead).of_same rfl rfl
  | frameTaken x rest f _ _ _ => exact State.acceptFrame_channel_bounded (by exact hs) f
  | riseWatched _ _ _ => exact hs
  | fallWatched _ _ => exact State.settle_channel_bounded hs
  | carrierStuck _ => exact State.settle_channel_bounded hs
  | sent fell f _ _ _ =>
    unfold State.lineCharacterSent
    split_ifs
    · exact hs
    · exact State.settle_channel_bounded hs
  | csInResumes _ =>
    unfold State.endStall
    split_ifs <;> exact State.settle_channel_bounded hs
  | stalled _ =>
    unfold State.reportStall
    split_ifs <;> exact State.settle_channel_bounded hs
  | press k _ _ => exact State.settle_channel_bounded ((State.takePress_follows _ k).keeps_bounded hs)
  | _ => simpa using hs

end

/-! ## The oldest of the LOST entries (R8, R54) -/

/-- The older of two candidates: heard longer ago, or as long ago with the lower number. -/
def olderOf (now : PartTime) (best c : Nat × PartTime) : Nat × PartTime :=
  if elapsed now c.2 > elapsed now best.2 ∨ (elapsed now c.2 = elapsed now best.2 ∧ c.1 < best.1) then c else best

theorem oldestOf_cons (now : PartTime) (a : Nat × PartTime) (l : List (Nat × PartTime)) :
    oldestOf now (a :: l) = some (l.foldl (olderOf now) a).1 := rfl

theorem olderOf_mem (now : PartTime) (l : List (Nat × PartTime)) (a : Nat × PartTime) :
    l.foldl (olderOf now) a ∈ a :: l := by
  induction l generalizing a with
  | nil => simp
  | cons b l ih =>
    have hchosen : olderOf now a b = a ∨ olderOf now a b = b := by
      unfold olderOf
      split_ifs
      · exact .inr rfl
      · exact .inl rfl
    have hmem := ih (olderOf now a b)
    rw [List.foldl_cons]
    obtain h | h := hchosen <;> rw [h] at hmem ⊢ <;> simp only [List.mem_cons] at hmem ⊢ <;> tauto

theorem oldestOf_mem {now : PartTime} {l : List (Nat × PartTime)} {n : Nat} (h : oldestOf now l = some n) :
    ∃ heard, (n, heard) ∈ l := by
  cases l with
  | nil => cases h
  | cons a l =>
    rw [oldestOf_cons, Option.some.injEq] at h
    exact ⟨(l.foldl (olderOf now) a).2, h ▸ olderOf_mem now l a⟩

/-! ## The roster (R47 to R54) -/

theorem rosterFind_none_iff (r : List RosterEntry) (n : Nat) : rosterFind r n = none ↔ n ∉ r.map (·.loader) := by
  simp [rosterFind]

theorem rosterUpdate_loaders (r : List RosterEntry) (n : Nat) (f : RosterEntry → RosterEntry)
    (hf : ∀ e, (f e).loader = e.loader) : (rosterUpdate r n f).map (·.loader) = r.map (·.loader) := by
  rw [rosterUpdate, List.map_map]
  refine List.map_congr_left fun e _ => ?_
  simp only [Function.comp]
  split_ifs
  · exact hf e
  · rfl

theorem replacedLoader_mem {r : List RosterEntry} {now : PartTime} {n : Nat} (h : replacedLoader r now = some n) :
    ∃ e ∈ r, e.loader = n := by
  obtain ⟨heard, hmem⟩ := oldestOf_mem h
  simp only [List.mem_map, List.mem_filter, Prod.mk.injEq] at hmem
  obtain ⟨e, ⟨he, -⟩, hn, -⟩ := hmem
  exact ⟨e, he, hn⟩

/-- Removing a present loader's entry makes the roster shorter. -/
theorem rosterRemove_length_lt {r : List RosterEntry} {n : Nat} (h : ∃ e ∈ r, e.loader = n) :
    (rosterRemove r n).length < r.length := by
  obtain ⟨e, he, hn⟩ := h
  exact List.length_filter_lt_length_iff_exists.mpr ⟨e, he, by simp [hn]⟩

section
variable {r : List RosterEntry} {n : Nat} {f : RosterEntry → RosterEntry}

theorem rosterUpdate_bounded (hr : r.length ≤ 12 ∧ (r.map (·.loader)).Nodup) (hf : ∀ e, (f e).loader = e.loader) :
    (rosterUpdate r n f).length ≤ 12 ∧ ((rosterUpdate r n f).map (·.loader)).Nodup := by
  rw [rosterUpdate_loaders r n f hf]
  exact ⟨by simpa [rosterUpdate] using hr.1, hr.2⟩

theorem rosterRemove_bounded (hr : r.length ≤ 12 ∧ (r.map (·.loader)).Nodup) :
    (rosterRemove r n).length ≤ 12 ∧ ((rosterRemove r n).map (·.loader)).Nodup :=
  ⟨(List.length_filter_le _ _).trans hr.1, hr.2.sublist (List.filter_sublist.map _)⟩

theorem rosterTake_bounded {now : PartTime} (hr : r.length ≤ 12 ∧ (r.map (·.loader)).Nodup)
    (hf : ∀ e, (f e).loader = e.loader) :
    (rosterTake r n now f).length ≤ 12 ∧ ((rosterTake r n now f).map (·.loader)).Nodup := by
  have added (q : List RosterEntry) (hlength : q.length < 12) (hnodup : (q.map (·.loader)).Nodup)
      (hnew : n ∉ q.map (·.loader)) : (q ++ [f (newRosterEntry n now)]).length ≤ 12 ∧
        ((q ++ [f (newRosterEntry n now)]).map (·.loader)).Nodup := by
    refine ⟨by simp; omega, ?_⟩
    rw [List.map_append]
    refine hnodup.append (List.nodup_singleton _) (List.disjoint_singleton.mpr ?_)
    show (f (newRosterEntry n now)).loader ∉ q.map (·.loader)
    rw [hf]
    exact hnew
  unfold rosterTake
  split
  · exact rosterUpdate_bounded hr hf
  next hnone =>
    have hnew := (rosterFind_none_iff r n).mp hnone
    split
    next hroom => exact added r hroom hr.2 hnew
    next =>
      split
      · exact hr
      next old hold =>
        have hshorter := rosterRemove_length_lt (replacedLoader_mem hold)
        refine added _ (by omega) (rosterRemove_bounded hr).2 fun hmem => hnew ?_
        exact (List.filter_sublist.map _).subset hmem

theorem RosterEntry.heard_loader (e : RosterEntry) (now : PartTime) : (e.heard now).loader = e.loader := rfl

theorem RosterEntry.takePart_loader (e : RosterEntry) (now : PartTime) (p : PartFacts) :
    (e.takePart now p).loader = e.loader := by
  unfold RosterEntry.takePart
  split_ifs <;> rfl

/-- The loaders of the roster after a frame are those before it and the sender. -/
theorem rosterTake_loader {now : PartTime} (hf : ∀ e, (f e).loader = e.loader) {x : RosterEntry}
    (hx : x ∈ rosterTake r n now f) : x.loader = n ∨ ∃ e ∈ r, e.loader = x.loader := by
  have kept {q : List RosterEntry} (hq : ∀ e ∈ q, e ∈ r) (hx : x ∈ q ++ [f (newRosterEntry n now)]) :
      x.loader = n ∨ ∃ e ∈ r, e.loader = x.loader := by
    obtain hx | hx := List.mem_append.mp hx
    · exact .inr ⟨x, hq x hx, rfl⟩
    · rw [List.mem_singleton.mp hx]
      exact .inl (hf _)
  unfold rosterTake at hx
  split at hx
  · have hmem := List.mem_map_of_mem (f := (·.loader)) hx
    rw [rosterUpdate_loaders r n f hf] at hmem
    obtain ⟨e, he, hloader⟩ := List.mem_map.mp hmem
    exact .inr ⟨e, he, hloader⟩
  · split at hx
    · exact kept (fun _ h => h) hx
    · split at hx
      · exact .inr ⟨x, hx, rfl⟩
      · exact kept (fun _ h => List.mem_of_mem_filter h) hx

end

section
variable {s t : State} {c : Instr}

/-- What a command makes of a roster, at the station own: it empties it, or changes one entry, or removes one, or takes a
frame of another station. -/
inductive RosterMove (own : Nat) (r : List RosterEntry) : List RosterEntry → Prop where
  | kept : RosterMove own r r
  | emptied : RosterMove own r []
  | updated (n : Nat) (f : RosterEntry → RosterEntry) (hf : ∀ e, (f e).loader = e.loader) :
    RosterMove own r (rosterUpdate r n f)
  | removed (n : Nat) : RosterMove own r (rosterRemove r n)
  | taken (n : Nat) (now : PartTime) (f : RosterEntry → RosterEntry) (hother : n ≠ own)
    (hf : ∀ e, (f e).loader = e.loader) : RosterMove own r (rosterTake r n now f)

theorem State.dispatch_rosterMove (s : State) (f : List Byte) :
    RosterMove s.settings.station s.roster (s.dispatch f).roster := by
  unfold State.dispatch
  split_ifs with hown
  · rw [State.takeConflict_roster]
    exact .kept
  · rw [State.takeTruckBeacon_roster]
    exact .kept
  · rw [State.mergeItems_roster, State.handWhere_roster, State.rosterPart]
    split_ifs
    · exact .taken _ _ _ hown fun e => e.takePart_loader _ _
    · exact .kept
  · rw [State.mergeItems_roster, State.handWhere_roster, State.rosterNotice]
    split_ifs
    · exact .taken _ _ _ hown fun e => e.heard_loader _
    · exact .kept

theorem State.acceptFrame_rosterMove (s : State) (f : List Byte) :
    RosterMove s.settings.station s.roster (s.acceptFrame f).roster := by
  unfold State.acceptFrame
  dsimp only
  split_ifs
  · simpa using RosterMove.kept
  · rw [State.settle_roster]
    exact s.becomeBusy.dispatch_rosterMove f
  · exact .kept

theorem Effect.rosterMove (h : Effect s c t) : RosterMove s.settings.station s.roster t.roster := by
  cases h with
  | reset cause _ => exact .emptied
  | loaderQuiet n _ =>
    rw [State.settle_roster]
    exact .updated n _ fun _ => rfl
  | loaderLost n _ =>
    rw [State.settle_roster]
    exact .updated n _ fun _ => rfl
  | loaderRemoved n _ =>
    rw [State.settle_roster]
    exact .removed n
  | frameTaken x rest f _ _ _ =>
    exact State.acceptFrame_rosterMove { s with link := ((s.link.withoutHead rest).takeByte x).1 } f
  | _ => simpa using RosterMove.kept

theorem RosterMove.bounded {own : Nat} {r q : List RosterEntry} (h : RosterMove own r q)
    (hr : r.length ≤ 12 ∧ (r.map (·.loader)).Nodup) : q.length ≤ 12 ∧ (q.map (·.loader)).Nodup := by
  cases h with
  | kept => exact hr
  | emptied => simp
  | updated n f hf => exact rosterUpdate_bounded hr hf
  | removed n => exact rosterRemove_bounded hr
  | taken n now f _ hf => exact rosterTake_bounded hr hf

theorem RosterMove.own_not_in {own : Nat} {r q : List RosterEntry} (h : RosterMove own r q)
    (hr : ∀ e ∈ r, e.loader ≠ own) : ∀ e ∈ q, e.loader ≠ own := by
  cases h with
  | kept => exact hr
  | emptied => simp
  | updated n f hf =>
    intro x hx
    have hmem := List.mem_map_of_mem (f := (·.loader)) hx
    rw [rosterUpdate_loaders r n f hf] at hmem
    obtain ⟨e, he, hloader⟩ := List.mem_map.mp hmem
    exact hloader ▸ hr e he
  | removed n => exact fun x hx => hr x (List.mem_of_mem_filter hx)
  | taken n now f hother hf =>
    intro x hx
    obtain rfl | ⟨e, he, hloader⟩ := rosterTake_loader hf hx
    · exact hother
    · exact hloader ▸ hr e he

/-- The settings change at a reset and at the validation, with an empty roster. -/
theorem Effect.settings_kept (h : Effect s c t) : t.settings = s.settings ∨
    (s.station = .configRead ∧ t.roster = s.roster) ∨ t.roster = [] := by
  cases h with
  | reset cause _ => exact .inr (.inr rfl)
  | image m hstation _ => exact .inr (.inl ⟨hstation, by simp⟩)
  | _ => exact .inl (by simp)

theorem Effect.keeps_ownNotInRoster (h : Effect s c t) (hs : s.EmptyOffFace) (hroster : s.OwnNotInRoster) :
    t.OwnNotInRoster := by
  obtain hsettings | ⟨hread, hkept⟩ | hempty := h.settings_kept
  · rw [State.OwnNotInRoster, hsettings]
    exact h.rosterMove.own_not_in hroster
  · obtain ⟨-, -, -, -, hempty, -, -⟩ := hs (by rw [hread]; rfl)
    simp [State.OwnNotInRoster, hkept, hempty]
  · simp [State.OwnNotInRoster, hempty]

end

/-! ## The scan port (R104, R115) -/

theorem ScanPort.Bounded.count {p : ScanPort} (hp : p.Bounded) (usable : Bool) : (p.count usable).Bounded := by
  obtain ⟨hbad, hgood, hone⟩ := hp
  unfold ScanPort.count
  split_ifs
  · exact ⟨by simp, by simp, .inl rfl⟩
  · exact ⟨by simp, by simp, .inr rfl⟩

theorem ScanPort.Bounded.judge {p : ScanPort} (hp : p.Bounded) : p.judge.Bounded := by
  unfold ScanPort.judge
  split_ifs <;> exact hp

section
variable {s t : State} {c : Instr}

theorem Effect.keeps_scanBounded (h : Effect s c t) (hs : s.scan.Bounded) : t.scan.Bounded := by
  have handedOn (v : State) (scan : Scan) (hv : v.scan.Bounded) : (v.handOn scan).scan.Bounded := by
    rw [State.handOn_scan]
    exact (hv.count _).judge
  cases h with
  | reset cause _ => exact (by decide : State.reset.scan.Bounded)
  | request _ _ => exact hs
  | skipped f _ _ => exact handedOn _ _ hs
  | word w f _ _ => exact hs
  | scanEnd f _ _ => exact handedOn _ _ hs
  | closed f _ _ => exact hs
  | timeout f _ _ => exact handedOn _ _ hs
  | frameTaken x rest f _ _ _ =>
    obtain hkept | ⟨-, hlisten⟩ := State.acceptFrame_scan { s with link := ((s.link.withoutHead rest).takeByte x).1 } f
    · rw [hkept]
      exact hs
    · rw [hlisten]
      exact hs
  | _ => simpa using hs

/-! ## The display's cells (R154, R156) -/

theorem CabPanel.Shaped.of_texts {p q : CabPanel} (hp : p.Shaped)
    (htexts : q.fields.map (·.text) = p.fields.map (·.text)) : q.Shaped := by
  have hlength : q.fields.length = p.fields.length := by simpa using congrArg List.length htexts
  refine ⟨hlength.trans hp.1, fun cell hcell => ?_⟩
  have hmem := List.mem_map_of_mem (f := (·.text)) hcell
  rw [htexts] at hmem
  obtain ⟨old, hold, htext⟩ := List.mem_map.mp hmem
  exact htext ▸ hp.2 old hold

/-- A display that shows every text has texts of eight characters. -/
theorem DisplayCurrent.shaped (hs : s.DisplayCurrent) (hlength : s.panel.fields.length = 16) : s.panel.Shaped := by
  refine ⟨hlength, fun cell hcell => ?_⟩
  obtain ⟨i, hi, rfl⟩ := List.mem_iff_getElem.mp hcell
  have htext := hs i (hlength ▸ hi)
  rw [List.getElem?_eq_getElem hi, Option.map_some, Option.some.injEq] at htext
  rw [htext]
  exact padText_length _

theorem Effect.keeps_shaped (h : Effect s c t) (hs : s.panel.Shaped) : t.panel.Shaped := by
  cases h.displayed with
  | settled hpanel _ =>
    have hlength := hpanel.length.trans hs.1
    exact DisplayCurrent.shaped (State.settle_displayCurrent _ hlength.ge) (by rw [State.settle_fields_length, hlength])
  | unshown hpanel _ _ _ _ => exact hs.of_texts (by rw [hpanel.1])
  | reset => exact (by decide : State.reset.panel.Shaped)
  | accepted =>
    exact CabPanel.Shaped.of_texts (p := s.panel.accepted) hs
      (State.startTransfer_texts { s with panel := s.panel.accepted })
  | failed => exact hs.of_texts (by simp [CabPanel.failed, allPending])
  | retried =>
    exact CabPanel.Shaped.of_texts (p := { s.panel with retryPause := none }) hs
      (State.startTransfer_texts { s with panel := { s.panel with retryPause := none } })

/-! ## The cycle tracker (R86, R92, R95, R96) -/

/-- What a command can make of the cycle tracker: a move of the phase, a pass marked, a shift reset, a device reset. -/
inductive CycleMove (k : CycleTracker) : CycleTracker → Prop where
  | kept : CycleMove k k
  | phase (p : Phase) (abandoned : Nat) (hphase : k.phase ≠ .dumping) :
    CycleMove k { k with phase := p, abandoned := abandoned }
  | dump (p : PassRecord) (hphase : k.phase = .loaded) : CycleMove k { k with
      phase := .dumping, openDump := true, passes := addPass k.passes p, nextNumber := numberAfter k.nextNumber }
  | dumpEnd : CycleMove k { k with
      phase := .empty, openDump := false, cycles := if k.openDump then countUp k.cycles else k.cycles }
  | marked : CycleMove k { k with passes := voidNewest k.passes }
  | shift (start : PartTime) : CycleMove k { k with
      passes := [], nextNumber := 1, shiftStart := start, cycles := 0, abandoned := 0, openDump := false }
  | reset : CycleMove k State.reset.cycle

theorem State.phaseMove_cycleMove (s : State) (boom tilt : Int) (d : Direction) :
    CycleMove s.cycle (s.move (phaseMove s.settings s.cycle.phase boom tilt d)).cycle := by
  cases hphase : s.cycle.phase with
  | empty =>
    unfold phaseMove
    dsimp only
    split_ifs
    · rw [State.move, State.leaveEmpty_cycle]
      exact .phase .digging s.cycle.abandoned (by simp [hphase])
    · exact .kept
  | digging =>
    unfold phaseMove
    dsimp only
    split_ifs
    · rw [State.move, State.armForWeigh_cycle]
      exact .phase .loaded s.cycle.abandoned (by simp [hphase])
    · exact .phase .empty s.cycle.abandoned (by simp [hphase])
    · exact .kept
  | loaded =>
    unfold phaseMove
    dsimp only
    split_ifs
    · rw [State.move, State.dump_cycle]
      exact .dump _ hphase
    · rw [State.move, State.abandonCycle_cycle]
      exact .phase .empty _ (by simp [hphase])
    · exact .kept
  | dumping =>
    unfold phaseMove
    dsimp only
    split_ifs
    · rw [State.move, State.endDump_eq]
      exact .dumpEnd
    · exact .kept

theorem State.cycleScan_cycleMove (s : State) (c : Scan) : CycleMove s.cycle (s.cycleScan c).cycle := by
  cases c with
  | notUsable => exact .kept
  | usable boom tilt d brake load =>
    unfold State.cycleScan
    dsimp only
    split_ifs
    · exact .kept
    · exact s.phaseMove_cycleMove boom tilt d

theorem State.handOn_cycleMove (s : State) (c : Scan) : CycleMove s.cycle (s.handOn c).cycle := by
  have hmove := ((s.judgeScan c.isUsable).takeFaultChange s.scan.fault).cycleScan_cycleMove c
  obtain ⟨_, _, _, hsettled⟩ := s.handOn_settledFrom c
  rw [hsettled]
  simpa using hmove

/-- A VOID press marks the newest pass, or leaves the cycle tracker. -/
theorem State.pressVoid_cycle (s : State) : s.pressVoid.cycle = s.cycle ∨
    s.pressVoid.cycle = { s.cycle with passes := voidNewest s.cycle.passes } := by
  unfold State.pressVoid
  split
  · exact .inl rfl
  next p _ =>
    split_ifs
    · split
      · exact .inl rfl
      next taken hclaim =>
        have htaken : taken.cycle = s.cycle := by
          have := s.voidClaim_cycle p.mass p.load
          rwa [hclaim] at this
        exact .inr (by rw [← htaken])
    · exact .inl rfl

theorem State.pressVoid_cycleMove (s : State) : CycleMove s.cycle s.pressVoid.cycle := by
  obtain hkept | hmarked := s.pressVoid_cycle
  · exact hkept ▸ .kept
  · exact hmarked ▸ .marked

theorem State.takePress_cycleMove (s : State) (k : Key) : CycleMove s.cycle (s.takePress k).cycle := by
  unfold State.takePress
  split_ifs
  · exact .kept
  · cases k with
    | void => exact (s.setKey .void (.down false)).pressVoid_cycleMove
    | zero | next | material | ack | shift => simpa [State.dispatchPress] using CycleMove.kept

theorem Effect.cycleMove (h : Effect s c t) : CycleMove s.cycle t.cycle := by
  have handedOn (v : State) (scan : Scan) (hv : v.cycle = s.cycle) : CycleMove s.cycle (v.handOn scan).cycle :=
    hv ▸ v.handOn_cycleMove scan
  cases h with
  | reset cause _ => exact .reset
  | skipped f _ _ => exact handedOn _ _ rfl
  | scanEnd f _ _ => exact handedOn _ _ rfl
  | timeout f _ _ => exact handedOn _ _ rfl
  | press k _ _ =>
    rw [State.settle_cycle]
    exact (s.stopDebounce k).takePress_cycleMove k
  | shift _ =>
    rw [State.settle_cycle]
    exact .shift s.partTime
  | _ => simpa using CycleMove.kept

theorem numberAfter_eq (n : Nat) (hlow : 1 ≤ n) (hhigh : n ≤ 65535) : numberAfter n = n % 65535 + 1 := by
  unfold numberAfter
  split_ifs <;> omega

theorem markFirst_length (ps : List PassRecord) : (markFirst ps).length = ps.length := by
  induction ps with
  | nil => rfl
  | cons p ps ih =>
    unfold markFirst
    split_ifs <;> simp [ih]

theorem voidNewest_length (ps : List PassRecord) : (voidNewest ps).length = ps.length := by
  simp [voidNewest, markFirst_length]

section
variable {k m : CycleTracker}

/-- Only in DUMPING can a dump be open. -/
theorem CycleTracker.Sound.closed (hk : k.Sound) (hphase : k.phase ≠ .dumping) : k.openDump = false := by
  obtain ⟨-, -, -, hopen⟩ := hk
  exact Bool.eq_false_iff.mpr fun h => hphase (hopen h)

theorem CycleMove.sound (h : CycleMove k m) (hk : k.Sound) : m.Sound := by
  obtain ⟨hpasses, hlow, hhigh, hopen⟩ := id hk
  cases h with
  | kept => exact hk
  | phase p abandoned hphase => exact ⟨hpasses, hlow, hhigh, fun h => by simp [hk.closed hphase] at h⟩
  | dump p _ =>
    have hnumber := numberAfter_eq _ hlow hhigh
    exact ⟨addPass_length _ _ hpasses, by dsimp only; omega, by dsimp only; omega, fun _ => rfl⟩
  | dumpEnd => exact ⟨hpasses, hlow, hhigh, fun h => by cases h⟩
  | marked => exact ⟨by rw [voidNewest_length]; exact hpasses, hlow, hhigh, hopen⟩
  | shift start => exact ⟨by simp, by simp, by simp, fun h => by cases h⟩
  | reset => exact (by decide : State.reset.cycle.Sound)

theorem CycleMove.numbered (h : CycleMove k m) (hk : k.Sound) (hnumbered : k.Numbered) (hcycles : k.cycles < 4294967295) :
    m.Numbered := by
  obtain ⟨-, hlow, hhigh, -⟩ := id hk
  cases h with
  | kept => exact hnumbered
  | phase p abandoned _ => exact hnumbered
  | dump p hphase =>
    have hclosed := hk.closed (by simp [hphase])
    simp only [CycleTracker.Numbered, hclosed, numberAfter_eq _ hlow hhigh] at hnumbered ⊢
    simp only [Bool.false_eq_true, if_false, if_true] at hnumbered ⊢
    omega
  | dumpEnd =>
    have hcount : countUp k.cycles = k.cycles + 1 := by unfold countUp; omega
    cases hopen : k.openDump with
    | true => simpa [CycleTracker.Numbered, hopen, hcount] using hnumbered
    | false => simpa [CycleTracker.Numbered, hopen] using hnumbered
  | marked => exact hnumbered
  | shift start => simp [CycleTracker.Numbered]
  | reset => exact (by decide : State.reset.cycle.Numbered)

end

/-! ## The sub-millisecond time -/

theorem Effect.keeps_subTime (h : Effect s c t) (hs : s.subTime < 576) : t.subTime < 576 := by
  cases h with
  | reset cause _ => exact (by decide : State.reset.subTime < 576)
  | release _ =>
    rw [State.settle_subTime]
    exact (by decide : 0 < 576)
  | wrap _ _ => exact (by decide : 0 < 576)
  | _ => simpa using hs

theorem step_keeps_subTime (hs : s.subTime < 576) (h : step s = .next t) : t.subTime < 576 :=
  step_keeps (P := fun s => s.subTime < 576) (fun _ _ _ heffect => heffect.keeps_subTime) (fun _ _ _ h => h)
    (fun _ _ _ => Nat.mod_lt _ (by decide)) hs h

end

/-- What holds of a state, of the state after time, and of the state after a command's effect, holds after a step. -/
theorem step_answers {s t : State} {Q : State → Prop} (h : step s = .next t)
    (heffect : ∀ c l n, Effect { s with pending := l, free := n } c t → Q t) (hsame : Q s)
    (htime : ∀ n, Q (s.advance n)) : Q t := by
  obtain ⟨c, l, n, hexec⟩ | ⟨-, -, rfl | ⟨-, rfl⟩⟩ := step_cases h
  · exact heffect c l n (effect_of_exec hexec)
  · exact hsame
  · exact htime _

/-- Settles O53: each size is kept by every effect. -/
theorem stepKeepsBounds : Obligations.StepKeepsBounds := by
  refine ⟨fun s t hlink hqueue hstep => ⟨?_, ?_⟩, fun s t hstep => ⟨fun hs => ?_, fun hs => ?_, fun hs => ?_, fun hs => ?_,
    fun hs => step_keeps_subTime hs hstep, fun hface hs => ?_, fun hsound hs hcycles => ?_⟩⟩
  · exact step_keeps (P := fun s => s.link.Bounded) (fun _ _ _ heffect => heffect.keeps_linkBounded) (fun _ _ _ h => h)
      (fun _ _ h => h) hlink hstep
  · exact step_keeps (P := fun s => s.channel.Bounded) (fun _ _ _ heffect => heffect.keeps_channelBounded)
      (fun _ _ _ h => h) (fun _ _ h => h) hqueue hstep
  · exact step_keeps (P := State.RosterBounded) (fun _ _ _ heffect => heffect.rosterMove.bounded) (fun _ _ _ h => h)
      (fun _ _ h => h) hs hstep
  · exact step_keeps (P := fun s => s.scan.Bounded) (fun _ _ _ heffect => heffect.keeps_scanBounded) (fun _ _ _ h => h)
      (fun _ _ h => h) hs hstep
  · exact step_keeps (P := fun s => s.panel.Shaped) (fun _ _ _ heffect => heffect.keeps_shaped) (fun _ _ _ h => h)
      (fun _ _ h => h) hs hstep
  · exact step_keeps (P := fun s => s.cycle.Sound) (fun _ _ _ heffect => heffect.cycleMove.sound) (fun _ _ _ h => h)
      (fun _ _ h => h) hs hstep
  · refine step_answers hstep (fun _ l n heffect => ?_) hs fun _ => hs
    exact heffect.keeps_ownNotInRoster (by exact hface) (by exact hs)
  · refine step_answers (Q := fun t => t.cycle.Numbered) hstep (fun _ l n heffect => ?_) hs fun _ => hs
    exact heffect.cycleMove.numbered (by exact hsound) (by exact hs) (by exact hcycles)

end Sys2Proof.Machine
end


section
/-! The truck table keeps its shape (chapter 1): what each of its operations does to the link between the entries, the spot
queue and the pin. -/

namespace Sys2Proof.Machine

/-! ## The shape of the table, entry by entry -/

/-- An entry stands in the queue exactly when it is SPOTTED_HERE and does not wait; only such an entry waits; and lost
since is present in LOST only. -/
def TruckTable.Placed (queue : List Nat) (e : TruckEntry) : Prop :=
  (e.truck ∈ queue ↔ e.state = .spottedHere ∧ e.waitingSpot = false) ∧
    (e.waitingSpot = true → e.state = .spottedHere) ∧ (e.lostSince.isSome = true ↔ e.state = .lost)

section
variable {t u : TruckTable} {n : Nat} {e x : TruckEntry}

theorem TruckTable.eq_of_truck (hnodup : (t.entries.map (·.truck)).Nodup) (he : e ∈ t.entries) (hx : x ∈ t.entries)
    (htruck : e.truck = x.truck) : e = x :=
  List.inj_on_of_nodup_map hnodup he hx htruck

theorem TruckTable.sound_iff (t : TruckTable) : t.Sound ↔
    t.entries.length ≤ 16 ∧ (t.entries.map (·.truck)).Nodup ∧ t.queue.length ≤ 3 ∧ t.queue.Nodup ∧
      (∀ n ∈ t.queue, ∃ e ∈ t.entries, e.truck = n) ∧ (∀ e ∈ t.entries, TruckTable.Placed t.queue e) ∧
      ∀ n ∈ t.pin, n ∈ t.queue := by
  constructor
  · intro ⟨hlength, hnodup, hqlength, hqnodup, hqueue, hentries, hpin⟩
    refine ⟨hlength, hnodup, hqlength, hqnodup, fun n hn => ?_, fun e he => ?_, hpin⟩
    · obtain ⟨e, he, hn, -, -⟩ := hqueue n hn
      exact ⟨e, he, hn⟩
    · obtain ⟨hhere, hwaiting, hlost⟩ := hentries e he
      refine ⟨⟨fun hmem => ?_, fun ⟨hstate, hmark⟩ => ?_⟩, hwaiting, hlost⟩
      · obtain ⟨x, hx, htruck, hstate, hmark⟩ := hqueue e.truck hmem
        exact TruckTable.eq_of_truck hnodup hx he htruck ▸ ⟨hstate, hmark⟩
      · exact (hhere hstate).resolve_left (by simp [hmark])
  · intro ⟨hlength, hnodup, hqlength, hqnodup, hqueue, hplaced, hpin⟩
    refine ⟨hlength, hnodup, hqlength, hqnodup, fun n hn => ?_, fun e he => ?_, hpin⟩
    · obtain ⟨e, he, rfl⟩ := hqueue n hn
      exact ⟨e, he, rfl, (hplaced e he).1.mp hn⟩
    · obtain ⟨hqueued, hwaiting, hlost⟩ := hplaced e he
      refine ⟨fun hstate => ?_, hwaiting, hlost⟩
      cases hmark : e.waitingSpot with
      | true => exact .inl rfl
      | false => exact .inr (hqueued.mpr ⟨hstate, hmark⟩)

theorem TruckTable.find_none_iff (t : TruckTable) (n : Nat) : t.find n = none ↔ ∀ e ∈ t.entries, e.truck ≠ n := by
  simp [TruckTable.find]

/-- The entry found for a truck is the one entry of that truck. -/
theorem TruckTable.Sound.eq_of_find (ht : t.Sound) (hfind : t.find n = some e) (hx : x ∈ t.entries) (hn : x.truck = n) :
    x = e := by
  obtain ⟨he, htruck⟩ := t.find_some n e hfind
  exact TruckTable.eq_of_truck ht.2.1 hx he (hn.trans htruck.symm)

theorem TruckTable.Sound.placed (ht : t.Sound) (he : e ∈ t.entries) : TruckTable.Placed t.queue e := by
  obtain ⟨-, -, -, -, -, hplaced, -⟩ := t.sound_iff.mp ht
  exact hplaced e he

/-- One truck's entry changed, with the queue changed at that truck only. -/
theorem TruckTable.Sound.updated (ht : t.Sound) {f : TruckEntry → TruckEntry} (hf : ∀ e, (f e).truck = e.truck)
    (hentries : u.entries = (t.update n f).entries)
    (hplaced : ∀ e ∈ t.entries, e.truck = n → TruckTable.Placed u.queue (f e))
    (hpresent : n ∈ u.queue → ∃ e ∈ t.entries, e.truck = n)
    (hqueue : u.queue.length ≤ 3 ∧ u.queue.Nodup) (hothers : ∀ m, m ≠ n → (m ∈ u.queue ↔ m ∈ t.queue))
    (hpin : ∀ m ∈ u.pin, m ∈ u.queue) : u.Sound := by
  obtain ⟨hlength, hnodup, -, -, hqueued, hold, -⟩ := t.sound_iff.mp ht
  refine u.sound_iff.mpr ⟨?_, ?_, hqueue.1, hqueue.2, fun m hm => ?_, fun x hx => ?_, hpin⟩
  · rw [hentries, TruckTable.update_length]
    exact hlength
  · rw [hentries, t.update_trucks n f hf]
    exact hnodup
  · have hpresent : ∃ e ∈ t.entries, e.truck = m := by
      by_cases hmn : m = n
      · subst hmn
        exact hpresent hm
      · exact hqueued m ((hothers m hmn).mp hm)
    have htrucks : m ∈ (t.update n f).entries.map (·.truck) := by
      rw [t.update_trucks n f hf]
      simpa using hpresent
    rw [hentries]
    simpa using htrucks
  · rw [hentries] at hx
    obtain ⟨e, he, rfl⟩ := List.mem_map.mp hx
    split_ifs with htruck
    · exact hplaced e he htruck
    · obtain ⟨hmem, hrest⟩ := hold e he
      exact ⟨(hothers e.truck htruck).trans hmem, hrest⟩

/-- A new truck's entry, with the queue changed at that truck only. -/
theorem TruckTable.Sound.added (ht : t.Sound) (hnew : ∀ x ∈ t.entries, x.truck ≠ e.truck) (hroom : t.entries.length < 16)
    (hentries : u.entries = t.entries ++ [e]) (hplaced : TruckTable.Placed u.queue e)
    (hqueue : u.queue.length ≤ 3 ∧ u.queue.Nodup) (hothers : ∀ m, m ≠ e.truck → (m ∈ u.queue ↔ m ∈ t.queue))
    (hpin : ∀ m ∈ u.pin, m ∈ u.queue) : u.Sound := by
  obtain ⟨-, hnodup, -, -, hqueued, hold, -⟩ := t.sound_iff.mp ht
  refine u.sound_iff.mpr ⟨?_, ?_, hqueue.1, hqueue.2, fun m hm => ?_, fun x hx => ?_, hpin⟩
  · rw [hentries, List.length_append, List.length_singleton]
    omega
  · rw [hentries, List.map_append]
    exact hnodup.append (List.nodup_singleton _) (List.disjoint_singleton.mpr (by simpa using hnew))
  · rw [hentries]
    by_cases hmn : m = e.truck
    · exact ⟨e, by simp, hmn.symm⟩
    · obtain ⟨x, hx, htruck⟩ := hqueued m ((hothers m hmn).mp hm)
      exact ⟨x, by simp [hx], htruck⟩
  · rw [hentries] at hx
    obtain hx | hx := List.mem_append.mp hx
    · obtain ⟨hmem, hrest⟩ := hold x hx
      exact ⟨(hothers x.truck (hnew x hx)).trans hmem, hrest⟩
    · exact List.mem_singleton.mp hx ▸ hplaced

/-- The entry of a truck that is not in the queue removed. -/
theorem TruckTable.Sound.removed (ht : t.Sound) (hqueue : n ∉ t.queue) : (t.remove n).Sound := by
  obtain ⟨hlength, hnodup, hqlength, hqnodup, hqueued, hplaced, hpin⟩ := t.sound_iff.mp ht
  refine (t.remove n).sound_iff.mpr ⟨(List.length_filter_le _ _).trans hlength, hnodup.sublist (List.filter_sublist.map _),
    hqlength, hqnodup, fun m hm => ?_, fun x hx => hplaced x (List.mem_of_mem_filter hx), hpin⟩
  obtain ⟨e, he, rfl⟩ := hqueued m hm
  refine ⟨e, List.mem_filter.mpr ⟨he, ?_⟩, rfl⟩
  exact bne_iff_ne.mpr fun h => hqueue (h ▸ hm)

/-- A LOST truck is not in the queue (R9). -/
theorem TruckTable.Sound.lost_not_queued (ht : t.Sound) (hfind : t.find n = some e) (hlost : e.state = .lost) :
    n ∉ t.queue := by
  obtain ⟨he, rfl⟩ := t.find_some n e hfind
  intro hmem
  have hhere := ((ht.placed he).1.mp hmem).1
  rw [hlost] at hhere
  cases hhere

theorem TruckTable.update_update (t : TruckTable) (n : Nat) (f g : TruckEntry → TruckEntry)
    (hf : ∀ e, (f e).truck = e.truck) : (t.update n f).update n g = t.update n (g ∘ f) := by
  simp only [TruckTable.update, List.map_map, TruckTable.mk.injEq, and_true]
  refine List.map_congr_left fun e _ => ?_
  simp only [Function.comp]
  by_cases htruck : e.truck = n <;> simp [hf, htruck]

end

/-! ## One entry changed, and the queue with it (R13 to R16, R9) -/

section
variable {t : TruckTable} {n : Nat} {e : TruckEntry} {f : TruckEntry → TruckEntry}

/-- The entry changed, and placed as the queue stands. -/
theorem TruckTable.Sound.update_kept (ht : t.Sound) (hf : ∀ x, (f x).truck = x.truck)
    (hplaced : ∀ e, t.find n = some e → TruckTable.Placed t.queue (f e)) : (t.update n f).Sound := by
  obtain ⟨-, hnodup, hqlength, hqnodup, hqueued, -, hpin⟩ := t.sound_iff.mp ht
  refine ht.updated (n := n) hf rfl (fun x hx hn => ?_) (hqueued n) ⟨hqlength, hqnodup⟩ (fun _ _ => Iff.rfl) hpin
  cases hfind : t.find n with
  | none => exact absurd hn ((t.find_none_iff n).mp hfind x hx)
  | some e => exact ht.eq_of_find hfind hx hn ▸ hplaced e hfind

/-- The entry changed, and its truck at the tail of the queue. -/
theorem TruckTable.Sound.update_joined (ht : t.Sound) (hf : ∀ x, (f x).truck = x.truck) (hfind : t.find n = some e)
    (hqueue : n ∉ t.queue) (hroom : t.queue.length < 3) (hhere : (f e).state = .spottedHere)
    (hmark : (f e).waitingSpot = false) (hsince : (f e).lostSince = none) : ((t.update n f).join n).Sound := by
  obtain ⟨he, htruck⟩ := t.find_some n e hfind
  obtain ⟨-, hnodup, hqlength, hqnodup, hqueued, -, hpin⟩ := t.sound_iff.mp ht
  have hjoined : ((t.update n f).join n).queue = t.queue ++ [n] := by simp [TruckTable.join, hqueue]
  refine ht.updated (n := n) hf rfl (fun x hx hn => ?_) (fun _ => ⟨e, he, htruck⟩) ?_ (fun m hm => ?_) fun m hm => ?_
  · rw [ht.eq_of_find hfind hx hn, TruckTable.Placed, hf, htruck, hjoined]
    simp [hhere, hmark, hsince]
  · rw [hjoined]
    exact ⟨by simp; omega, hqnodup.append (List.nodup_singleton n) (List.disjoint_singleton.mpr hqueue)⟩
  · simp [hjoined, hm]
  · rw [hjoined]
    exact List.mem_append_left _ (hpin m hm)

/-- The pin of a truck that leaves goes with it (R18). -/
theorem TruckTable.mem_leave_pin {m : Nat} (hm : m ∈ (t.leave n).pin) : m ∈ t.pin ∧ m ≠ n := by
  unfold TruckTable.leave at hm
  dsimp only at hm
  split_ifs at hm with hpinned
  · cases hm
  · exact ⟨hm, fun h => hpinned (h ▸ hm)⟩

/-- The entry changed, and its truck out of the queue. -/
theorem TruckTable.Sound.update_left (ht : t.Sound) (hf : ∀ x, (f x).truck = x.truck) (hfind : t.find n = some e)
    (haway : (f e).state ≠ .spottedHere) (hmark : (f e).waitingSpot = false)
    (hlost : (f e).lostSince.isSome = true ↔ (f e).state = .lost) : ((t.update n f).leave n).Sound := by
  obtain ⟨he, htruck⟩ := t.find_some n e hfind
  obtain ⟨-, hnodup, hqlength, hqnodup, hqueued, -, hpin⟩ := t.sound_iff.mp ht
  have hleft (m : Nat) : m ∈ ((t.update n f).leave n).queue ↔ m ∈ t.queue ∧ m ≠ n := by simp [TruckTable.leave]
  refine ht.updated (n := n) hf rfl (fun x hx hn => ?_) (fun _ => ⟨e, he, htruck⟩)
    ⟨(List.length_filter_le _ _).trans hqlength, hqnodup.filter _⟩ (fun m hm => ?_) fun m hm => ?_
  · rw [ht.eq_of_find hfind hx hn, TruckTable.Placed, hf, htruck, hleft]
    simp [haway, hmark, hlost]
  · simp [hleft, hm]
  · obtain ⟨hm, hne⟩ := TruckTable.mem_leave_pin hm
    exact (hleft m).mpr ⟨hpin m hm, hne⟩

end

theorem TruckTable.join_markWaiting (t : TruckTable) (n : Nat) (mark : Bool) :
    (t.join n).markWaiting n mark = (t.markWaiting n mark).join n := rfl

/-- An entry's state changed and the queue changed after it: the table is sound when the entry was placed before. -/
theorem State.spotChange_sound {s : State} {t : TruckTable} {n : Nat} {e : TruckEntry} {f : TruckEntry → TruckEntry}
    {isHere : Bool} (ht : t.Sound) (hfind : t.find n = some e) (hf : ∀ x, (f x).truck = x.truck)
    (hwaiting : (f e).waitingSpot = e.waitingSpot) (hhere : (f e).state = .spottedHere ↔ isHere = true)
    (hsince : (f e).lostSince = none) (hlost : (f e).state ≠ .lost) (htrucks : s.trucks = t.update n f) :
    (s.spotChange n (e.state == .spottedHere) e.waitingSpot isHere).trucks.Sound := by
  obtain ⟨he, htruck⟩ := t.find_some n e hfind
  obtain ⟨hqueued, hmarked, -⟩ := ht.placed he
  rw [htruck] at hqueued
  have found : ∀ x, t.find n = some x → x = e := fun x hx => Option.some.inj (hx.symm.trans hfind)
  have marked (mark : Bool) : (t.update n f).markWaiting n mark =
      t.update n fun x => { f x with waitingSpot := mark } := t.update_update n f _ hf
  unfold State.spotChange
  dsimp only
  rw [htrucks]
  split_ifs with hisHere hwasHere hjoins hroom hwasHere hwait
  · -- from a waiting spot into the queue
    obtain ⟨hwait, hroom⟩ := (Bool.and_eq_true _ _).mp hjoins
    rw [TruckTable.join_markWaiting, marked]
    exact ht.update_joined (f := fun x => { f x with waitingSpot := false }) hf hfind (fun h => by simp_all)
      (of_decide_eq_true hroom) (hhere.mpr hisHere) rfl hsince
  · -- stays
    rw [htrucks]
    refine ht.update_kept hf fun x hx => ?_
    rw [found x hx, TruckTable.Placed, hf, htruck, hqueued, hwaiting, hsince]
    simp_all
  · -- joins
    refine ht.update_joined hf hfind (fun h => by simp_all) (of_decide_eq_true hroom) (hhere.mpr hisHere) ?_ hsince
    rw [hwaiting]
    exact Bool.eq_false_iff.mpr fun h => by simp_all
  · -- no room
    rw [State.raise_trucks, marked]
    refine ht.update_kept (f := fun x => { f x with waitingSpot := true }) hf fun x hx => ?_
    rw [found x hx, TruckTable.Placed, hf, htruck, hqueued, hsince]
    simp_all
  · -- leaves its waiting spot
    rw [marked]
    refine ht.update_kept (f := fun x => { f x with waitingSpot := false }) hf fun x hx => ?_
    rw [found x hx, TruckTable.Placed, hf, htruck, hqueued, hsince]
    simp_all
  · -- leaves the queue
    refine ht.update_left hf hfind (fun h => hisHere (hhere.mp h)) (by simpa [hwaiting] using hwait) ?_
    simp [hsince, hlost]
  · -- was away and stays away
    have hunmarked : e.waitingSpot = false := Bool.eq_false_iff.mpr fun h => hwasHere (by simpa using hmarked h)
    rw [htrucks]
    refine ht.update_kept hf fun x hx => ?_
    rw [found x hx, TruckTable.Placed, hf, htruck, hqueued, hwaiting, hsince]
    simp_all

/-! ## Truck beacons (R3 to R8) -/

theorem TruckBeacon.state_ne_lost (b : TruckBeacon) (station : Nat) : b.state station ≠ .lost := by
  unfold TruckBeacon.state
  split
  · simp
  · split_ifs <;> simp
  · simp

theorem TruckTable.update_of_absent (t : TruckTable) (n : Nat) (f : TruckEntry → TruckEntry)
    (habsent : ∀ e ∈ t.entries, e.truck ≠ n) : t.update n f = t := by
  have hentries : (t.entries.map fun e => if e.truck = n then f e else e) = t.entries := by
    conv_rhs => rw [← List.map_id t.entries]
    exact List.map_congr_left fun e he => if_neg (habsent e he)
  rw [TruckTable.update, hentries]

/-- A new entry marked while it is added. -/
theorem TruckTable.markWaiting_added (t : TruckTable) (e : TruckEntry) (mark : Bool)
    (hnew : ∀ x ∈ t.entries, x.truck ≠ e.truck) :
    TruckTable.markWaiting { t with entries := t.entries ++ [e] } e.truck mark =
      { t with entries := t.entries ++ [{ e with waitingSpot := mark }] } := by
  have hold := congrArg TruckTable.entries
    (t.update_of_absent e.truck (fun x => { x with waitingSpot := mark }) hnew)
  simp only [TruckTable.update] at hold
  simp [TruckTable.markWaiting, TruckTable.update, hold]

section
variable {s : State} {b : TruckBeacon}

theorem State.refreshEntry_sound {e : TruckEntry} (hs : s.trucks.Sound) (hfind : s.trucks.find b.truck = some e) :
    (s.refreshEntry e b).trucks.Sound := by
  have hclosed : (if decide (b.epoch ≠ e.epoch) then s.closeLoad e .newLoad else s).trucks = s.trucks := by
    split_ifs
    · simp
    · rfl
  have refreshed (u : State) (hu : u.trucks = s.trucks) :
      (State.spotChange { u with trucks := u.trucks.update b.truck fun x =>
          { x.refreshed b s.settings.station u.partTime with
              epoch := b.epoch, peerDropped := if decide (b.epoch ≠ e.epoch) then false else x.peerDropped } }
        b.truck (e.state == .spottedHere) e.waitingSpot (b.state s.settings.station == .spottedHere)).trucks.Sound :=
    State.spotChange_sound (f := fun x => { x.refreshed b s.settings.station u.partTime with
        epoch := b.epoch, peerDropped := if decide (b.epoch ≠ e.epoch) then false else x.peerDropped })
      (hu ▸ hs) (by rw [hu]; exact hfind) (fun _ => rfl) rfl beq_iff_eq.symm rfl (b.state_ne_lost _) rfl
  rw [State.refreshEntry, State.handWhere_trucks, State.evalOverload_trucks]
  exact refreshed _ hclosed

/-- A newcomer's place in the queue: at its tail, or a waiting spot (R13, R15). -/
theorem State.spotChange_new (u : State) (n : Nat) (isHere : Bool) :
    (u.spotChange n false false isHere).trucks =
      if isHere = true then
        if u.trucks.queue.length < 3 then u.trucks.join n else u.trucks.markWaiting n true
      else u.trucks := by
  unfold State.spotChange
  cases isHere with
  | false => rfl
  | true =>
    by_cases hroom : u.trucks.queue.length < 3 <;> simp [hroom]

theorem State.createEntry_sound (hs : s.trucks.Sound) (hnew : s.trucks.find b.truck = none)
    (hroom : s.trucks.entries.length < 16) : (s.createEntry b).trucks.Sound := by
  obtain ⟨-, -, hqlength, hqnodup, hqueued, -, hpin⟩ := s.trucks.sound_iff.mp hs
  have hnew : ∀ x ∈ s.trucks.entries, x.truck ≠ b.truck := (s.trucks.find_none_iff b.truck).mp hnew
  have hnotQueued : b.truck ∉ s.trucks.queue := fun h => by
    obtain ⟨x, hx, htruck⟩ := hqueued _ h
    exact hnew x hx htruck
  have hlost := b.state_ne_lost s.settings.station
  rw [State.createEntry, State.handWhere_trucks, State.evalOverload_trucks, State.spotChange_new]
  dsimp only
  split_ifs with hhere hspot
  · have hjoined : (TruckTable.join { s.trucks with
        entries := s.trucks.entries ++ [b.newEntry s.settings.station s.partTime] } b.truck).queue =
        s.trucks.queue ++ [b.truck] := by simp [TruckTable.join, hnotQueued]
    refine hs.added (e := b.newEntry s.settings.station s.partTime) hnew hroom rfl ?_ ?_ (fun m hm => ?_) fun m hm => ?_
    · rw [TruckTable.Placed, hjoined]
      simpa [TruckBeacon.newEntry, hlost] using hhere
    · rw [hjoined]
      exact ⟨by simp; omega, hqnodup.append (List.nodup_singleton _) (List.disjoint_singleton.mpr hnotQueued)⟩
    · have hm : m ≠ b.truck := hm
      simp [hjoined, hm]
    · rw [hjoined]
      exact List.mem_append_left _ (hpin m hm)
  · have hmarked := s.trucks.markWaiting_added (b.newEntry s.settings.station s.partTime) true hnew
    rw [show b.truck = (b.newEntry s.settings.station s.partTime).truck from rfl, hmarked]
    refine hs.added (e := { b.newEntry s.settings.station s.partTime with waitingSpot := true }) hnew hroom rfl ?_
      ⟨hqlength, hqnodup⟩ (fun _ _ => Iff.rfl) hpin
    simpa [TruckTable.Placed, TruckBeacon.newEntry, hlost, hnotQueued] using hhere
  · refine hs.added (e := b.newEntry s.settings.station s.partTime) hnew hroom rfl ?_
      ⟨hqlength, hqnodup⟩ (fun _ _ => Iff.rfl) hpin
    simpa [TruckTable.Placed, TruckBeacon.newEntry, hlost, hnotQueued] using hhere

/-- The entry evicted is LOST, and stands in the table (R8). -/
theorem State.evictionChoice_some {old : TruckEntry} (hs : s.trucks.Sound) (hchoice : s.evictionChoice = some old) :
    s.trucks.find old.truck = some old ∧ old.state = .lost := by
  unfold State.evictionChoice at hchoice
  split at hchoice
  · cases hchoice
  next n holdest =>
    obtain ⟨heard, hmem⟩ := oldestOf_mem holdest
    simp only [List.mem_map, List.mem_filter, Prod.mk.injEq, beq_iff_eq] at hmem
    obtain ⟨x, ⟨hx, hlost⟩, hn, -⟩ := hmem
    obtain ⟨-, htruck⟩ := s.trucks.find_some n old hchoice
    exact ⟨by rw [htruck]; exact hchoice, hs.eq_of_find hchoice hx hn ▸ hlost⟩

theorem TruckTable.remove_length_lt {t : TruckTable} {n : Nat} {e : TruckEntry} (hfind : t.find n = some e) :
    (t.remove n).entries.length < t.entries.length := by
  obtain ⟨he, htruck⟩ := t.find_some n e hfind
  exact List.length_filter_lt_length_iff_exists.mpr ⟨e, he, by simp [htruck]⟩

theorem TruckTable.find_remove_of_none {t : TruckTable} {n m : Nat} (hnone : t.find n = none) :
    (t.remove m).find n = none := by
  rw [TruckTable.find_none_iff] at hnone ⊢
  exact fun e he => hnone e (List.mem_of_mem_filter he)

/-! ## Items (R22) -/

theorem State.mergeItem_trucks (s : State) (i : Item) :
    (s.mergeItem i).trucks = s.trucks ∨ (s.mergeItem i).trucks = (s.markDropped i.truck).trucks := by
  have adopted : (s.adopt i).trucks = s.trucks ∨ (s.adopt i).trucks = (s.markDropped i.truck).trucks := by
    unfold State.adopt
    split <;> split_ifs <;> simp
  have merged : (s.mergePeer i).trucks = s.trucks ∨ (s.mergePeer i).trucks = (s.markDropped i.truck).trucks := by
    unfold State.mergePeer
    split <;> split_ifs <;> simp
  unfold State.mergeItem
  split
  · split
    · exact .inl rfl
    · split_ifs
      · exact .inl rfl
      · exact adopted
      · exact merged
  · exact .inl rfl

theorem State.mergeItem_sound (hs : s.trucks.Sound) (i : Item) : (s.mergeItem i).trucks.Sound := by
  obtain h | h := s.mergeItem_trucks i
  · rw [h]
    exact hs
  · rw [h]
    exact hs.update_kept (fun _ => rfl) fun e hfind => by
      obtain ⟨he, -⟩ := s.trucks.find_some _ _ hfind
      have hplaced := hs.placed he
      exact hplaced

theorem State.mergeItems_sound (hs : s.trucks.Sound) (is : List Item) : (s.mergeItems is).trucks.Sound := by
  unfold State.mergeItems
  induction is generalizing s with
  | nil => exact hs
  | cons i is ih =>
    refine ih ?_
    rw [State.takeItem, State.handWhere_trucks]
    exact State.mergeItem_sound hs i

theorem State.takeTruckBeacon_sound (hs : s.trucks.Sound) (b : TruckBeacon) : (s.takeTruckBeacon b).trucks.Sound := by
  unfold State.takeTruckBeacon
  split
  · split
    next e hfind => exact State.mergeItems_sound (State.refreshEntry_sound hs hfind) _
    next hnone =>
      split
      next hroom => exact State.mergeItems_sound (State.createEntry_sound hs hnone hroom) _
      next =>
        split
        · exact hs
        next old hchoice =>
          obtain ⟨hfind, hlost⟩ := State.evictionChoice_some hs hchoice
          have hshorter := TruckTable.remove_length_lt hfind
          refine State.mergeItems_sound (State.createEntry_sound ?_ ?_ ?_) _
          · rw [State.closeLoad_trucks]
            exact hs.removed (hs.lost_not_queued hfind hlost)
          · rw [State.closeLoad_trucks]
            exact TruckTable.find_remove_of_none hnone
          · rw [State.closeLoad_trucks]
            exact lt_of_lt_of_le hshorter hs.1
  · exact hs

/-! ## Aging and the NEXT key (R9, R10, R17) -/

theorem TruckTable.following_mem {t : TruckTable} {n : Nat} (h : t.following = some n) : n ∈ t.queue := by
  unfold TruckTable.following at h
  split at h
  · cases h
  · split at h
    next hrest =>
      cases h
      exact (List.dropWhile_sublist _).subset (List.mem_of_mem_drop (hrest ▸ List.mem_cons_self))
    next => exact List.mem_of_head? h

theorem State.pressNext_sound (hs : s.trucks.Sound) : s.pressNext.trucks.Sound := by
  obtain ⟨hlength, hnodup, hqlength, hqnodup, hqueue, hentries, -⟩ := id hs
  unfold State.pressNext
  split
  · exact hs
  · exact ⟨hlength, hnodup, hqlength, hqnodup, hqueue, hentries, fun n hn =>
      TruckTable.following_mem (t := s.trucks) hn⟩

theorem State.truckLost_sound {n : Nat} (hs : s.trucks.Sound) (hdue : s.truckAgingDue n = true) :
    (s.truckLost n).trucks.Sound := by
  unfold State.truckAgingDue at hdue
  split at hdue
  · cases hdue
  next e hfind => exact hs.update_left (fun _ => rfl) hfind (by simp) rfl (by simp)

theorem State.truckRemoved_sound {n : Nat} {e : TruckEntry} (hs : s.trucks.Sound) (hdue : s.lostHoldDue n = true)
    (hfind : s.trucks.find n = some e) : (s.truckRemoved e).trucks.Sound := by
  have hlost : e.state = .lost := by simp_all [State.lostHoldDue]
  obtain ⟨-, htruck⟩ := s.trucks.find_some n e hfind
  show ((s.closeLoad e .lost).trucks.remove e.truck).Sound
  rw [State.closeLoad_trucks, htruck]
  exact hs.removed (hs.lost_not_queued hfind hlost)

/-! ## Every command -/

theorem State.dispatch_sound (hs : s.trucks.Sound) (f : List Byte) : (s.dispatch f).trucks.Sound := by
  unfold State.dispatch
  split_ifs
  · rw [State.takeConflict_trucks]
    exact hs
  · exact State.takeTruckBeacon_sound hs _
  · exact State.mergeItems_sound (by simpa using hs) _
  · exact State.mergeItems_sound (by simpa using hs) _

theorem State.acceptFrame_sound (hs : s.trucks.Sound) (f : List Byte) : (s.acceptFrame f).trucks.Sound := by
  unfold State.acceptFrame
  dsimp only
  split_ifs
  · simpa using hs
  · rw [State.settle_trucks]
    exact State.dispatch_sound (by exact hs) f
  · exact hs

theorem State.takePress_sound (hs : s.trucks.Sound) (k : Key) : (s.takePress k).trucks.Sound := by
  unfold State.takePress
  split_ifs
  · exact hs
  · cases k with
    | next => exact State.pressNext_sound (by exact hs)
    | zero | void | material | ack | shift => simpa [State.dispatchPress] using hs

end

theorem Effect.keeps_trucksSound {s t : State} {c : Instr} (h : Effect s c t) (hs : s.trucks.Sound) : t.trucks.Sound := by
  cases h with
  | reset cause _ => exact (by decide : State.reset.trucks.Sound)
  | truckLost n hdue =>
    rw [State.settle_trucks]
    exact State.truckLost_sound hs hdue
  | truckRemoved n e hdue hfind =>
    rw [State.settle_trucks]
    exact State.truckRemoved_sound hs hdue hfind
  | frameTaken x rest f _ _ _ => exact State.acceptFrame_sound (by exact hs) f
  | press k _ _ =>
    rw [State.settle_trucks]
    exact State.takePress_sound (by exact hs) k
  | _ => simpa using hs

/-- Settles O54: each operation on the table keeps it sound, and no other command touches it. -/
theorem stepKeepsTheTruckTable : Obligations.StepKeepsTheTruckTable := by
  intro s t hs hstep
  exact step_keeps (P := fun s => s.trucks.Sound) (fun _ _ _ heffect => heffect.keeps_trucksSound) (fun _ _ _ h => h)
    (fun _ _ h => h) hs hstep

end Sys2Proof.Machine
end


section
/-! The contribution records stay in their bounds, belong to open loads, and a held one never falls behind (chapter 2). -/

namespace Sys2Proof.Machine

/-! ## Records -/

/-- The bounds of one record (R23). -/
def Contribution.Valid (r : Contribution) : Prop :=
  1 ≤ r.revision ∧ r.revision ≤ 255 ∧ r.passes ≤ 48 ∧ r.unweighed ≤ r.passes ∧ r.mass ≤ 65535

/-- The key of a record (R23). -/
def Contribution.key (r : Contribution) : Nat × Nat × Nat := (r.contributor, r.truck, r.epoch)

/-- The truck and epoch of each entry. -/
def TruckTable.loads (t : TruckTable) : List (Nat × Nat) := t.entries.map fun e => (e.truck, e.epoch)

/-- Every record is held on, at its revision or a later one. -/
def Grows (rs qs : List Contribution) : Prop := ∀ r ∈ rs, ∃ q ∈ qs, q.key = r.key ∧ r.revision ≤ q.revision

theorem Grows.refl (rs : List Contribution) : Grows rs rs := fun r hr => ⟨r, hr, rfl, le_refl _⟩

theorem Grows.trans {rs qs ps : List Contribution} (hrq : Grows rs qs) (hqp : Grows qs ps) : Grows rs ps := by
  intro r hr
  obtain ⟨q, hq, hkey, hrevision⟩ := hrq r hr
  obtain ⟨p, hp, hkey', hrevision'⟩ := hqp q hq
  exact ⟨p, hp, hkey'.trans hkey, hrevision.trans hrevision'⟩

theorem State.recordsOpen_iff (s : State) :
    s.RecordsOpen ↔ ∀ r ∈ s.tally.records, (r.truck, r.epoch) ∈ s.trucks.loads := by
  simp [State.RecordsOpen, TruckTable.loads]

theorem Contribution.hasKey_iff_key (r : Contribution) (contributor truck epoch : Nat) :
    r.hasKey contributor truck epoch = true ↔ r.key = (contributor, truck, epoch) := by
  simp [Contribution.hasKey_iff, Contribution.key]

section
variable {t u : LoadTally} {r x : Contribution} {contributor truck epoch : Nat}

theorem LoadTally.Bounded.nodup (ht : t.Bounded) : (t.records.map Contribution.key).Nodup := ht.2.2.1

theorem LoadTally.Bounded.valid (ht : t.Bounded) (hr : r ∈ t.records) : r.Valid := ht.2.2.2.1 r hr

/-- The record found for a key is the one record with it. -/
theorem LoadTally.Bounded.eq_of_find (ht : t.Bounded)
    (hfind : findRecord t.records contributor truck epoch = some r) (hx : x ∈ t.records)
    (hkey : x.hasKey contributor truck epoch = true) : x = r := by
  have hmem := List.mem_of_find?_eq_some hfind
  obtain ⟨rfl, rfl, rfl⟩ := findRecord_key hfind
  exact List.inj_on_of_nodup_map ht.nodup hx hmem ((x.hasKey_iff_key _ _ _).mp hkey)

theorem updateRecord_map {α : Type} (rs : List Contribution) {f : Contribution → Contribution} (g : Contribution → α)
    (hf : ∀ x, g (f x) = g x) : (updateRecord rs contributor truck epoch f).map g = rs.map g := by
  rw [updateRecord, List.map_map]
  refine List.map_congr_left fun x _ => ?_
  simp only [Function.comp]
  split_ifs
  · exact hf x
  · rfl

theorem countP_of_map_eq {rs qs : List Contribution} (p : Bool → Bool) (h : qs.map (·.own) = rs.map (·.own)) :
    qs.countP (fun r => p r.own) = rs.countP (fun r => p r.own) := by
  have hcount (l : List Contribution) : l.countP (fun r => p r.own) = (l.map (·.own)).countP p :=
    (List.countP_map (p := p) (f := fun r : Contribution => r.own) (l := l)).symm
  rw [hcount, hcount, h]

/-- The record with a key changed in its place. -/
theorem LoadTally.Bounded.updated (ht : t.Bounded) {f : Contribution → Contribution}
    (hfind : findRecord t.records contributor truck epoch = some r)
    (hrecords : u.records = updateRecord t.records contributor truck epoch f) (hlog : u.log = t.log)
    (hkey : ∀ x, (f x).key = x.key) (hown : ∀ x, (f x).own = x.own) (hvalid : r.Valid → (f r).Valid) : u.Bounded := by
  have howns : u.records.map (·.own) = t.records.map (·.own) := by rw [hrecords, updateRecord_map _ _ hown]
  have hkeys : u.records.map Contribution.key = t.records.map Contribution.key := by
    rw [hrecords, updateRecord_map _ _ hkey]
  refine ⟨?_, ?_, ?_, fun x hx => ?_, by rw [hlog]; exact ht.2.2.2.2⟩
  · exact (countP_of_map_eq id howns).trans_le ht.1
  · exact (countP_of_map_eq (!·) howns).trans_le ht.2.1
  · show (u.records.map Contribution.key).Nodup
    rw [hkeys]
    exact ht.nodup
  · rw [hrecords] at hx
    obtain ⟨y, hy, rfl⟩ := List.mem_map.mp hx
    split_ifs with hhas
    · rw [ht.eq_of_find hfind hy hhas]
      exact hvalid (ht.valid (List.mem_of_find?_eq_some hfind))
    · exact ht.valid hy

theorem LoadTally.Bounded.updated_grows (ht : t.Bounded) {f : Contribution → Contribution}
    (hfind : findRecord t.records contributor truck epoch = some r)
    (hrecords : u.records = updateRecord t.records contributor truck epoch f)
    (hkey : ∀ x, (f x).key = x.key) (hrevision : r.revision ≤ (f r).revision) : Grows t.records u.records := by
  intro x hx
  refine ⟨if x.hasKey contributor truck epoch then f x else x, by rw [hrecords]; exact List.mem_map_of_mem hx, ?_⟩
  split_ifs with hhas
  · rw [ht.eq_of_find hfind hx hhas]
    exact ⟨hkey r, hrevision⟩
  · exact ⟨rfl, le_refl _⟩

/-- A record with a new key, when there is a place for it. -/
theorem LoadTally.Bounded.added (ht : t.Bounded) (hnew : findRecord t.records r.contributor r.truck r.epoch = none)
    (hrecords : u.records = t.records ++ [r]) (hlog : u.log = t.log) (hvalid : r.Valid)
    (hown : r.own = true → t.ownCount < 12) (hpeer : r.own = false → t.peerCount < 36) : u.Bounded := by
  refine ⟨?_, ?_, ?_, fun x hx => ?_, by rw [hlog]; exact ht.2.2.2.2⟩
  · have hle := ht.1
    cases h : r.own with
    | true =>
      have hlt := hown h
      simp only [LoadTally.ownCount] at hlt
      simp [LoadTally.ownCount, hrecords, h]
      omega
    | false => simpa [LoadTally.ownCount, hrecords, h] using hle
  · have hle := ht.2.1
    cases h : r.own with
    | true => simpa [LoadTally.peerCount, hrecords, h] using hle
    | false =>
      have hlt := hpeer h
      simp only [LoadTally.peerCount] at hlt
      simp [LoadTally.peerCount, hrecords, h]
      omega
  · show (u.records.map Contribution.key).Nodup
    rw [hrecords, List.map_append]
    refine ht.nodup.append (List.nodup_singleton _) (List.disjoint_singleton.mpr fun hmem => ?_)
    obtain ⟨x, hx, hkey⟩ := List.mem_map.mp hmem
    exact List.find?_eq_none.mp hnew x hx ((x.hasKey_iff_key _ _ _).mpr hkey)
  · rw [hrecords] at hx
    obtain hx | hx := List.mem_append.mp hx
    · exact ht.valid hx
    · exact List.mem_singleton.mp hx ▸ hvalid

end

/-! ## What the shared operations keep -/

/-- t comes from s with the same loads open: its records stay bounded, belong to open loads, and hold on to the records of
s. -/
structure TallyFrom (s t : State) : Prop where
  loads : t.trucks.loads = s.trucks.loads
  bounded : s.tally.Bounded → t.tally.Bounded
  grows : s.tally.Bounded → Grows s.tally.records t.tally.records
  opened : s.RecordsOpen → t.RecordsOpen

section
variable {s t u : State}

theorem TallyFrom.trans (hst : TallyFrom s t) (htu : TallyFrom t u) : TallyFrom s u where
  loads := htu.loads.trans hst.loads
  bounded h := htu.bounded (hst.bounded h)
  grows h := (hst.grows h).trans (htu.grows (hst.bounded h))
  opened h := htu.opened (hst.opened h)

theorem TallyFrom.of_same (hloads : t.trucks.loads = s.trucks.loads) (htally : t.tally = s.tally) : TallyFrom s t where
  loads := hloads
  bounded h := htally ▸ h
  grows _ := htally ▸ Grows.refl _
  opened h := by
    rw [State.recordsOpen_iff, hloads, htally]
    exact s.recordsOpen_iff.mp h

theorem TallyFrom.of_updated {f : Contribution → Contribution} {r : Contribution} {contributor truck epoch : Nat}
    (hloads : t.trucks.loads = s.trucks.loads)
    (hfind : findRecord s.tally.records contributor truck epoch = some r)
    (hrecords : t.tally.records = updateRecord s.tally.records contributor truck epoch f)
    (hlog : t.tally.log = s.tally.log) (hkey : ∀ x, (f x).key = x.key) (hown : ∀ x, (f x).own = x.own)
    (hvalid : r.Valid → (f r).Valid) (hrevision : r.revision ≤ (f r).revision) : TallyFrom s t where
  loads := hloads
  bounded h := h.updated hfind hrecords hlog hkey hown hvalid
  grows h := h.updated_grows hfind hrecords hkey hrevision
  opened h := by
    rw [State.recordsOpen_iff] at h ⊢
    intro x hx
    have hmem := List.mem_map_of_mem (f := Contribution.key) hx
    rw [hrecords, updateRecord_map _ _ hkey] at hmem
    obtain ⟨y, hy, hxy⟩ := List.mem_map.mp hmem
    simp only [Contribution.key, Prod.mk.injEq] at hxy
    rw [hloads, ← hxy.2.1, ← hxy.2.2]
    exact h y hy

theorem TallyFrom.of_added {r : Contribution} (hloads : t.trucks.loads = s.trucks.loads)
    (hnew : findRecord s.tally.records r.contributor r.truck r.epoch = none)
    (hrecords : t.tally.records = s.tally.records ++ [r]) (hlog : t.tally.log = s.tally.log) (hvalid : r.Valid)
    (hown : r.own = true → s.tally.ownCount < 12) (hpeer : r.own = false → s.tally.peerCount < 36)
    (hopen : (r.truck, r.epoch) ∈ s.trucks.loads) : TallyFrom s t where
  loads := hloads
  bounded h := h.added hnew hrecords hlog hvalid hown hpeer
  grows _ := fun x hx => ⟨x, by simp [hrecords, hx], rfl, le_refl _⟩
  opened h := by
    rw [State.recordsOpen_iff] at h ⊢
    intro x hx
    rw [hrecords] at hx
    rw [hloads]
    obtain hx | hx := List.mem_append.mp hx
    · exact h x hx
    · exact List.mem_singleton.mp hx ▸ hopen

theorem TruckTable.mem_loads {t : TruckTable} {n epoch : Nat} {e : TruckEntry} (hfind : t.find n = some e)
    (hepoch : e.epoch = epoch) : (n, epoch) ∈ t.loads := by
  obtain ⟨he, rfl⟩ := t.find_some n e hfind
  subst hepoch
  exact List.mem_map_of_mem (f := fun e : TruckEntry => (e.truck, e.epoch)) he

/-! ### Credits and voids (R31, R34) -/

theorem Contribution.credited_valid {r : Contribution} {m : Option Nat} (hr : r.revision < 255) (hp : r.passes < 48)
    (hunweighed : r.unweighed ≤ r.passes) (hmass : r.mass ≤ 65535) : (r.credited m).Valid := by
  cases m <;> simp only [Contribution.Valid, Contribution.credited] <;> omega

theorem Contribution.credited_key (r : Contribution) (m : Option Nat) : (r.credited m).key = r.key := by
  cases m <;> rfl

theorem Contribution.credited_own (r : Contribution) (m : Option Nat) : (r.credited m).own = r.own := by
  cases m <;> rfl

theorem Contribution.credited_revision (r : Contribution) (m : Option Nat) :
    (r.credited m).revision = r.revision + 1 := by
  cases m <;> rfl

theorem Contribution.withdrawn_valid {r : Contribution} {m : Option Nat} (hr : r.Valid) (habsorbs : r.absorbs m = true) :
    (r.withdrawn m).Valid := by
  obtain ⟨hlow, -, hpasses, hunweighed, hmass⟩ := hr
  obtain ⟨hpass, hrevision, -, -⟩ := (r.absorbs_iff m).mp habsorbs
  cases m <;> simp only [Contribution.Valid, Contribution.withdrawn] <;> omega

theorem State.credit_tallyFrom (s : State) (m : Option Nat) (load : Option Load) : TallyFrom s (s.credit m load).1 := by
  have pile : TallyFrom s (s.creditPile m) := ⟨rfl, id, fun _ => Grows.refl _, id⟩
  have refused : TallyFrom s (s.refuseCredit m) := ⟨rfl, id, fun _ => Grows.refl _, id⟩
  cases load with
  | none => exact pile
  | some l =>
    by_cases hopen : ∃ e, s.trucks.find l.truck = some e ∧ e.epoch = l.epoch
    · obtain ⟨e, hfind, hepoch⟩ := hopen
      cases hheld : findRecord s.tally.records s.settings.station l.truck l.epoch with
      | some r =>
        rw [State.credit_of_held hfind hepoch hheld]
        split_ifs with hlimit
        · exact refused
        · obtain ⟨hrevision, hpasses⟩ := not_or.mp hlimit
          exact .of_updated (by simp [TruckTable.loads]) hheld (by rw [State.creditOwn_tally])
            (by rw [State.creditOwn_tally]) (fun x => x.credited_key m) (fun x => x.credited_own m)
            (fun ⟨_, _, _, hunweighed, hmass⟩ => Contribution.credited_valid (by omega) (by omega) hunweighed hmass)
            (by rw [Contribution.credited_revision]; omega)
      | none =>
        rw [State.credit_of_new hfind hepoch hheld]
        split_ifs with hfull
        · exact refused
        · have hkey := (emptyOwnRecord s.settings.station l).credited_key m
          simp only [Contribution.key, emptyOwnRecord, Prod.mk.injEq] at hkey
          obtain ⟨hcontributor, htruck, hkepoch⟩ := hkey
          refine .of_added (r := (emptyOwnRecord s.settings.station l).credited m) (by simp [TruckTable.loads]) ?_
            (by rw [State.creditOwn_tally]) (by rw [State.creditOwn_tally])
            (Contribution.credited_valid (by simp [emptyOwnRecord]) (by simp [emptyOwnRecord]) (by simp [emptyOwnRecord])
              (by simp [emptyOwnRecord])) (fun _ => by omega)
            (fun h => ?_) ?_
          · rw [emptyOwnRecord, hcontributor, htruck, hkepoch]
            exact hheld
          · rw [Contribution.credited_own] at h
            cases h
          · rw [emptyOwnRecord, htruck, hkepoch]
            exact TruckTable.mem_loads hfind hepoch
    · rw [State.credit_of_closed fun e hfind hepoch => hopen ⟨e, hfind, hepoch⟩]
      exact pile

theorem State.voidClaim_tallyFrom (s : State) (m : Option Nat) (load : Option Load) :
    TallyFrom s (s.voidClaim m load).1 := by
  cases load with
  | none => exact ⟨rfl, id, fun _ => Grows.refl _, id⟩
  | some l =>
    obtain ⟨_, r, -, -, hheld, habsorbs, hclaim⟩ | ⟨-, hclaim⟩ := s.voidClaim_cases m l
    · rw [hclaim]
      refine .of_updated (by simp [State.voided, TruckTable.loads]) hheld (by rw [State.voided_tally])
        (by rw [State.voided_tally]) (fun x => ?_) (fun x => ?_) (fun hr => Contribution.withdrawn_valid hr habsorbs) ?_
      · cases m <;> rfl
      · cases m <;> rfl
      · cases m <;> exact Nat.le_succ _
    · rw [hclaim]
      exact .of_same rfl rfl

/-! ### Items (R27, R28, R36, R37) -/

/-- An item as a frame can carry it: one byte of revision, two of mass. -/
def Item.Carried (i : Item) : Prop := i.revision ≤ 255 ∧ i.mass ≤ 65535

theorem Item.record_valid {i : Item} {station : Nat} (hi : i.Carried) (hcheck : i.passesChecks station = true) (own : Bool) :
    (i.record own).Valid := by
  obtain ⟨-, -, -, hrevision, hpasses, hunweighed⟩ := (i.passesChecks_iff station).mp hcheck
  exact ⟨Nat.one_le_iff_ne_zero.mpr hrevision, hi.1, hpasses, hunweighed, hi.2⟩

theorem State.markDropped_loads (s : State) (n : Nat) : (s.markDropped n).trucks.loads = s.trucks.loads := by
  simp only [State.markDropped, TruckTable.loads, TruckTable.update, List.map_map]
  refine List.map_congr_left fun e _ => ?_
  simp only [Function.comp]
  split_ifs <;> rfl

section
variable {i : Item} (hi : i.Carried) (hcheck : i.passesChecks s.settings.station = true)
include hi hcheck

/-- A held record that takes the values of a later item. -/
theorem replaced_tallyFrom {r : Contribution}
    (hheld : findRecord s.tally.records i.contributor i.truck i.epoch = some r) (hlater : r.revision < i.revision)
    (hloads : t.trucks.loads = s.trucks.loads)
    (hrecords : t.tally.records = updateRecord s.tally.records i.contributor i.truck i.epoch (·.replaced i))
    (hlog : t.tally.log = s.tally.log) : TallyFrom s t := by
  have hvalid := Item.record_valid hi hcheck false
  exact .of_updated hloads hheld hrecords hlog (fun _ => rfl) (fun _ => rfl) (fun _ => hvalid) hlater.le

variable {e : TruckEntry} (hfind : s.trucks.find i.truck = some e) (hepoch : e.epoch = i.epoch)
include hfind hepoch

theorem State.mergePeer_tallyFrom : TallyFrom s (s.mergePeer i) := by
  cases hheld : findRecord s.tally.records i.contributor i.truck i.epoch with
  | some r =>
    rw [State.mergePeer_of_held hheld]
    split_ifs with hlater
    · exact replaced_tallyFrom hi hcheck hheld hlater rfl rfl rfl
    · exact .of_same rfl rfl
  | none =>
    rw [State.mergePeer_of_new hheld]
    split_ifs with hfull
    · exact .of_same (s.markDropped_loads _) rfl
    · exact .of_added (r := i.record false) rfl hheld rfl rfl (Item.record_valid hi hcheck false) (fun h => by cases h)
        (fun _ => by omega) (TruckTable.mem_loads hfind hepoch)

theorem State.adopt_tallyFrom : TallyFrom s (s.adopt i) := by
  cases hheld : findRecord s.tally.records i.contributor i.truck i.epoch with
  | some r =>
    rw [State.adopt_of_held hheld]
    split_ifs with hlater
    · exact replaced_tallyFrom hi hcheck hheld hlater (by simp [TruckTable.loads]) (by simp) (by simp)
    · exact .of_same rfl rfl
  | none =>
    rw [State.adopt_of_new hheld]
    split_ifs with hfull
    · exact .of_same (s.markDropped_loads _) rfl
    · exact .of_added (r := i.record true) (by simp [TruckTable.loads]) hheld (by simp) (by simp)
        (Item.record_valid hi hcheck true) (fun _ => by omega) (fun h => by cases h)
        (TruckTable.mem_loads hfind hepoch)

end

theorem State.mergeItem_tallyFrom {i : Item} (hi : i.Carried) : TallyFrom s (s.mergeItem i) := by
  by_cases hcheck : i.passesChecks s.settings.station = true
  · by_cases hopen : ∃ e, s.trucks.find i.truck = some e ∧ e.epoch = i.epoch
    · obtain ⟨e, hfind, hepoch⟩ := hopen
      rw [State.mergeItem_of_matched hcheck hfind hepoch]
      split_ifs
      · exact State.adopt_tallyFrom hi hcheck hfind hepoch
      · exact State.mergePeer_tallyFrom hi hcheck hfind hepoch
    · rw [State.mergeItem_of_closed fun e hfind hepoch => hopen ⟨e, hfind, hepoch⟩]
      exact .of_same rfl rfl
  · rw [State.mergeItem_of_failed (Bool.eq_false_iff.mpr hcheck)]
    exact .of_same rfl rfl

theorem State.mergeItems_tallyFrom {is : List Item} (his : ∀ i ∈ is, i.Carried) : TallyFrom s (s.mergeItems is) := by
  unfold State.mergeItems
  induction is generalizing s with
  | nil => exact .of_same rfl rfl
  | cons i is ih =>
    obtain ⟨hi, his⟩ := List.forall_mem_cons.mp his
    have shown : TallyFrom (s.mergeItem i) (s.takeItem i) := .of_same (by simp [TruckTable.loads]) (by simp)
    exact ((State.mergeItem_tallyFrom hi).trans shown).trans (ih his)

theorem byteAt_le (f : List Byte) (i : Nat) : byteAt f i ≤ 255 := by
  unfold byteAt
  omega

theorem wordAt_le (f : List Byte) (i : Nat) : wordAt f i ≤ 65535 := by
  have hhigh := byteAt_le f i
  have hlow := byteAt_le f (i + 1)
  unfold wordAt
  omega

theorem slotAt_carried (f : List Byte) (offset : Nat) :
    (slotAt f offset).revision ≤ 255 ∧ (slotAt f offset).mass ≤ 65535 := ⟨byteAt_le f _, wordAt_le f _⟩

theorem partItems_carried (f : List Byte) : ∀ i ∈ partItems f, i.Carried := by
  intro i hi
  obtain ⟨e, he, hitem⟩ := List.mem_filterMap.mp hi
  obtain ⟨offset, -, rfl⟩ := List.mem_map.mp he
  unfold slotItem at hitem
  split_ifs at hitem
  cases hitem
  exact slotAt_carried f offset

theorem noticeItems_carried (f : List Byte) : ∀ i ∈ noticeItems f, i.Carried := by
  intro i hi
  rw [List.mem_singleton.mp hi]
  exact slotAt_carried f 0

theorem echoItems_carried (f : List Byte) {truck epoch : Nat} :
    ∀ i ∈ (readTruckBeacon f).echoes.filterMap (echoItem truck epoch), i.Carried := by
  intro i hi
  obtain ⟨e, he, hitem⟩ := List.mem_filterMap.mp hi
  have hecho : ∃ offset, e = echoAt f offset := by
    simp only [readTruckBeacon, List.mem_cons, List.not_mem_nil, or_false] at he
    obtain rfl | rfl | rfl | rfl := he <;> exact ⟨_, rfl⟩
  obtain ⟨offset, rfl⟩ := hecho
  unfold echoItem at hitem
  split_ifs at hitem
  cases hitem
  exact ⟨byteAt_le f _, wordAt_le f _⟩

/-! ### The scan and the keys -/

theorem State.move_tallyFrom (s : State) (m : Move) : TallyFrom s (s.move m) := by
  cases m with
  | dump =>
    have credited := s.discardBucket.credit_tallyFrom s.weigh.handover.mass s.trucks.receivingLoad
    have kept : TallyFrom (s.discardBucket.credit s.weigh.handover.mass s.trucks.receivingLoad).1 s.dump :=
      .of_same (by simp [TruckTable.loads]) (by simp [State.dump])
    exact ⟨(credited.trans kept).loads, (credited.trans kept).bounded, (credited.trans kept).grows,
      (credited.trans kept).opened⟩
  | stay | flatDig => exact .of_same rfl rfl
  | dig | load | abandon | dumpEnd => exact .of_same (by simp [State.move, TruckTable.loads]) (by simp [State.move])

theorem State.cycleScan_tallyFrom (s : State) (c : Scan) : TallyFrom s (s.cycleScan c) := by
  cases c with
  | notUsable => exact .of_same rfl rfl
  | usable boom tilt d brake load =>
    unfold State.cycleScan
    dsimp only
    split_ifs
    · exact .of_same rfl rfl
    · exact s.move_tallyFrom _

theorem State.handOn_tallyFrom (s : State) (c : Scan) : TallyFrom s (s.handOn c) := by
  have judged : TallyFrom s ((s.judgeScan c.isUsable).takeFaultChange s.scan.fault) :=
    .of_same (by simp [TruckTable.loads]) (by simp)
  obtain ⟨_, _, _, hsettled⟩ := s.handOn_settledFrom c
  have weighed (u : State) : TallyFrom u (u.weighScan c) := .of_same (by simp [TruckTable.loads]) (by simp)
  rw [hsettled]
  exact judged.trans ((State.cycleScan_tallyFrom _ c).trans ((weighed _).trans (.of_same rfl rfl)))

theorem State.pressVoid_tallyFrom (s : State) : TallyFrom s s.pressVoid := by
  unfold State.pressVoid
  split
  · exact .of_same rfl rfl
  next p _ =>
    split_ifs
    · split
      · exact .of_same rfl rfl
      next taken hclaim =>
        have claimed : TallyFrom s taken := by
          have := s.voidClaim_tallyFrom p.mass p.load
          rwa [hclaim] at this
        exact claimed.trans (.of_same (by simp [TruckTable.loads]) (by simp))
    · exact .of_same rfl rfl

theorem State.takePress_tallyFrom (s : State) (k : Key) : TallyFrom s (s.takePress k) := by
  unfold State.takePress
  split_ifs
  · exact .of_same rfl rfl
  · have keyed : TallyFrom s (s.setKey k (.down false)) := .of_same rfl rfl
    refine keyed.trans ?_
    cases k with
    | void => exact State.pressVoid_tallyFrom _
    | next =>
      refine .of_same ?_ (by simp [State.dispatchPress])
      unfold State.dispatchPress State.pressNext
      dsimp only
      split <;> rfl
    | zero | material | ack | shift =>
      exact .of_same (by simp [State.dispatchPress, TruckTable.loads]) (by simp [State.dispatchPress])

/-! ## Loads closed (R10, R12, R43) -/

/-- What a command keeps of the tally: the records stay bounded and belong to open loads, and each one is held on to while
its load is open. -/
structure TallyKept (s t : State) : Prop where
  bounded : t.tally.Bounded
  opened : t.RecordsOpen
  held : ∀ r ∈ s.tally.records, (∃ q ∈ t.tally.records, q.key = r.key ∧ r.revision ≤ q.revision) ∨
    (r.truck, r.epoch) ∉ t.trucks.loads

theorem TallyKept.trans_from (hsu : TallyKept s u) (hut : TallyFrom u t) : TallyKept s t where
  bounded := hut.bounded hsu.bounded
  opened := hut.opened hsu.opened
  held r hr := by
    obtain ⟨q, hq, hkey, hrevision⟩ | hclosed := hsu.held r hr
    · obtain ⟨p, hp, hkey', hrevision'⟩ := hut.grows hsu.bounded q hq
      exact .inl ⟨p, hp, hkey'.trans hkey, hrevision.trans hrevision'⟩
    · exact .inr (by rwa [hut.loads])

/-- Loads opened, with the records as they are. -/
theorem TallyKept.of_loads (hbounded : s.tally.Bounded) (hopened : s.RecordsOpen) (htally : t.tally = s.tally)
    (hloads : ∀ p ∈ s.trucks.loads, p ∈ t.trucks.loads) : TallyKept s t where
  bounded := htally ▸ hbounded
  opened := by
    rw [State.recordsOpen_iff] at hopened ⊢
    exact fun r hr => hloads _ (hopened r (htally ▸ hr))
  held r hr := .inl ⟨r, htally ▸ hr, rfl, le_refl _⟩

theorem TallyKept.of_from (hbounded : s.tally.Bounded) (hopened : s.RecordsOpen) (h : TallyFrom s t) : TallyKept s t :=
  (TallyKept.of_loads hbounded hopened rfl fun _ hp => hp).trans_from h

theorem TallyKept.of_start {v : State} (h : TallyKept v t) (htally : v.tally = s.tally) : TallyKept s t :=
  ⟨h.bounded, h.opened, fun r hr => h.held r (htally ▸ hr)⟩

theorem Contribution.otherLoad_iff (r : Contribution) (truck epoch : Nat) :
    (!(r.truck == truck && r.epoch == epoch)) = true ↔ (r.truck, r.epoch) ≠ (truck, epoch) := by
  simp [imp_iff_not_or]

theorem State.closedTally_records (s : State) (e : TruckEntry) (reason : CloseReason) :
    (s.closedTally e reason).records = s.tally.records.filter fun r => !(r.truck == e.truck && r.epoch == e.epoch) := by
  unfold State.closedTally
  dsimp only
  split_ifs with hnone
  · rw [LoadTally.loadRecords, List.isEmpty_iff, List.filter_eq_nil_iff] at hnone
    exact (List.filter_eq_self.mpr fun r hr => (Bool.not_eq_true' _).mpr (Bool.eq_false_iff.mpr (hnone r hr))).symm
  · rfl

theorem LoadTally.addClosed_log_length {t : LoadTally} (ht : t.log.length ≤ 8) (c : ClosedLoad) :
    (t.addClosed c).log.length ≤ 8 := by
  show ((if 8 ≤ t.log.length then t.log.drop 1 else t.log) ++ [c]).length ≤ 8
  split_ifs <;> simp <;> omega

theorem State.closedTally_log (hlog : s.tally.log.length ≤ 8) (e : TruckEntry) (reason : CloseReason) :
    (s.closedTally e reason).log.length ≤ 8 := by
  unfold State.closedTally
  dsimp only
  split
  · exact hlog
  · exact LoadTally.addClosed_log_length (by exact hlog) _

theorem State.closedTally_bounded (hs : s.tally.Bounded) (e : TruckEntry) (reason : CloseReason) :
    (s.closedTally e reason).Bounded := by
  obtain ⟨hown, hpeer, hkeys, hvalid, hlog⟩ := hs
  have hsub : (s.closedTally e reason).records.Sublist s.tally.records := by
    rw [State.closedTally_records]
    exact List.filter_sublist
  exact ⟨hsub.countP_le.trans hown, hsub.countP_le.trans hpeer, hkeys.sublist (hsub.map _),
    fun r hr => hvalid r (hsub.subset hr), State.closedTally_log hlog e reason⟩

/-- One load closed and its truck's entry removed or opened with another epoch. -/
theorem TallyKept.of_closed (hbounded : s.tally.Bounded) (hopened : s.RecordsOpen) {e : TruckEntry} {reason : CloseReason}
    (htally : t.tally = s.closedTally e reason)
    (hothers : ∀ p ∈ s.trucks.loads, p ≠ (e.truck, e.epoch) → p ∈ t.trucks.loads)
    (hgone : (e.truck, e.epoch) ∉ t.trucks.loads) : TallyKept s t where
  bounded := htally ▸ State.closedTally_bounded hbounded e reason
  opened := by
    rw [State.recordsOpen_iff] at hopened ⊢
    intro r hr
    rw [htally, State.closedTally_records, List.mem_filter] at hr
    exact hothers _ (hopened r hr.1) ((r.otherLoad_iff _ _).mp hr.2)
  held r hr := by
    by_cases hclosed : (r.truck, r.epoch) = (e.truck, e.epoch)
    · exact .inr (by rwa [hclosed])
    · refine .inl ⟨r, ?_, rfl, le_refl _⟩
      rw [htally, State.closedTally_records, List.mem_filter]
      exact ⟨hr, (r.otherLoad_iff _ _).mpr hclosed⟩

/-! ### Truck beacons and aging -/

theorem TruckTable.update_loads (t : TruckTable) (n : Nat) {f : TruckEntry → TruckEntry}
    (hf : ∀ e ∈ t.entries, e.truck = n → (f e).truck = e.truck ∧ (f e).epoch = e.epoch) :
    (t.update n f).loads = t.loads := by
  simp only [TruckTable.loads, TruckTable.update, List.map_map]
  refine List.map_congr_left fun e he => ?_
  simp only [Function.comp]
  split_ifs with hn
  · rw [(hf e he hn).1, (hf e he hn).2]
  · rfl

theorem State.spotChange_loads (s : State) (n : Nat) (wasHere waiting isHere : Bool) :
    (s.spotChange n wasHere waiting isHere).trucks.loads = s.trucks.loads := by
  have hmarked (u : TruckTable) (mark : Bool) : (u.markWaiting n mark).loads = u.loads :=
    u.update_loads n fun _ _ _ => ⟨rfl, rfl⟩
  unfold State.spotChange
  dsimp only
  split_ifs
  · exact hmarked _ _
  · rfl
  · rfl
  · exact hmarked _ _
  · exact hmarked _ _
  · rfl
  · rfl

theorem State.createEntry_loads (s : State) (b : TruckBeacon) :
    (s.createEntry b).trucks.loads = s.trucks.loads ++ [(b.truck, b.epoch)] := by
  rw [State.createEntry, State.handWhere_trucks, State.evalOverload_trucks, State.spotChange_loads]
  simp [TruckTable.loads, TruckBeacon.newEntry]

theorem State.refreshEntry_loads (s : State) (e : TruckEntry) (b : TruckBeacon) :
    (s.refreshEntry e b).trucks.loads = s.trucks.loads.map fun p => if p.1 = b.truck then (b.truck, b.epoch) else p := by
  have hclosed : (if decide (b.epoch ≠ e.epoch) then s.closeLoad e .newLoad else s).trucks = s.trucks := by
    split_ifs
    · simp
    · rfl
  rw [State.refreshEntry, State.handWhere_trucks, State.evalOverload_trucks, State.spotChange_loads]
  simp only [TruckTable.loads, TruckTable.update, List.map_map, hclosed]
  refine List.map_congr_left fun x _ => ?_
  simp only [Function.comp]
  by_cases hn : x.truck = b.truck
  · rw [if_pos hn, if_pos hn, ← hn]
    rfl
  · rw [if_neg hn, if_neg hn]

theorem State.refreshEntry_tally (s : State) (e : TruckEntry) (b : TruckBeacon) :
    (s.refreshEntry e b).tally = if b.epoch ≠ e.epoch then s.closedTally e .newLoad else s.tally := by
  unfold State.refreshEntry
  by_cases hnew : b.epoch = e.epoch <;> simp [hnew]

section
variable (hsound : s.trucks.Sound) (hbounded : s.tally.Bounded) (hopened : s.RecordsOpen)
include hsound hbounded hopened

theorem State.refreshEntry_tallyKept {e : TruckEntry} {b : TruckBeacon} (hfind : s.trucks.find b.truck = some e) :
    TallyKept s (s.refreshEntry e b) := by
  obtain ⟨-, htruck⟩ := s.trucks.find_some b.truck e hfind
  have only {p : Nat × Nat} (hp : p ∈ s.trucks.loads) (hn : p.1 = b.truck) : p = (e.truck, e.epoch) := by
    obtain ⟨x, hx, rfl⟩ := List.mem_map.mp hp
    rw [hsound.eq_of_find hfind hx hn]
  by_cases hnew : b.epoch = e.epoch
  · refine .of_loads hbounded hopened (by rw [State.refreshEntry_tally, if_neg (not_not.mpr hnew)]) fun p hp => ?_
    rw [State.refreshEntry_loads]
    refine List.mem_map.mpr ⟨p, hp, ?_⟩
    split_ifs with hn
    · rw [only hp hn, htruck, hnew]
    · rfl
  · refine .of_closed hbounded hopened (by rw [State.refreshEntry_tally, if_pos hnew]) (fun p hp hother => ?_) fun hmem => ?_
    · rw [State.refreshEntry_loads]
      exact List.mem_map.mpr ⟨p, hp, if_neg fun hn => hother (only hp hn)⟩
    · rw [State.refreshEntry_loads] at hmem
      obtain ⟨p, hp, heq⟩ := List.mem_map.mp hmem
      split_ifs at heq with hn
      · exact hnew (Prod.mk.inj heq).2
      · exact hn (by rw [heq]; exact htruck)

theorem State.takeTruckBeacon_tallyKept (f : List Byte) : TallyKept s (s.takeTruckBeacon (readTruckBeacon f)) := by
  have echoes (u : State) : TallyFrom u (u.handEchoes (readTruckBeacon f)) :=
    State.mergeItems_tallyFrom (echoItems_carried f)
  unfold State.takeTruckBeacon
  split
  · split
    next e hfind => exact (State.refreshEntry_tallyKept hsound hbounded hopened hfind).trans_from (echoes _)
    next hnone =>
      split
      · refine (TallyKept.of_loads hbounded hopened (by simp) fun p hp => ?_).trans_from (echoes _)
        rw [State.createEntry_loads]
        exact List.mem_append_left _ hp
      · split
        · exact .of_loads hbounded hopened rfl fun _ hp => hp
        next old hchoice =>
          obtain ⟨hfind, hlost⟩ := State.evictionChoice_some hsound hchoice
          have hnone := (s.trucks.find_none_iff _).mp hnone
          obtain ⟨hold, -⟩ := s.trucks.find_some _ _ hfind
          refine (TallyKept.of_closed (e := old) (reason := .evicted) hbounded hopened (by simp) (fun p hp hother => ?_)
            fun hmem => ?_).trans_from (echoes _)
          · rw [State.createEntry_loads]
            obtain ⟨x, hx, rfl⟩ := List.mem_map.mp hp
            refine List.mem_append_left _ (List.mem_map.mpr ⟨x, ?_, rfl⟩)
            rw [State.closeLoad_trucks]
            refine List.mem_filter.mpr ⟨hx, bne_iff_ne.mpr fun htruck => hother ?_⟩
            rw [hsound.eq_of_find hfind hx htruck]
          · rw [State.createEntry_loads] at hmem
            obtain hmem | hmem := List.mem_append.mp hmem
            · obtain ⟨x, hx, heq⟩ := List.mem_map.mp hmem
              have htruck := (List.mem_filter.mp hx).2
              exact bne_iff_ne.mp htruck (Prod.mk.inj heq).1
            · exact hnone old hold (Prod.mk.inj (List.mem_singleton.mp hmem)).1
  · exact .of_loads hbounded hopened rfl fun _ hp => hp

theorem State.truckRemoved_tallyKept {n : Nat} {e : TruckEntry} (hfind : s.trucks.find n = some e) :
    TallyKept s (s.truckRemoved e) := by
  obtain ⟨-, rfl⟩ := s.trucks.find_some n e hfind
  have htrucks : (s.truckRemoved e).trucks = s.trucks.remove e.truck :=
    congrArg (TruckTable.remove · e.truck) (s.closeLoad_trucks e .lost)
  refine .of_closed (e := e) (reason := .lost) hbounded hopened (by simp [State.truckRemoved])
    (fun p hp hother => ?_) fun hmem => ?_
  · obtain ⟨x, hx, rfl⟩ := List.mem_map.mp hp
    rw [htrucks]
    refine List.mem_map.mpr ⟨x, List.mem_filter.mpr ⟨hx, bne_iff_ne.mpr fun htruck => hother ?_⟩, rfl⟩
    rw [hsound.eq_of_find hfind hx htruck]
  · rw [htrucks] at hmem
    obtain ⟨x, hx, heq⟩ := List.mem_map.mp hmem
    exact bne_iff_ne.mp (List.mem_filter.mp hx).2 (Prod.mk.inj heq).1

theorem State.dispatch_tallyKept (f : List Byte) : TallyKept s (s.dispatch f) := by
  unfold State.dispatch
  split_ifs
  · exact .of_loads hbounded hopened (by simp) fun p hp => by simpa [TruckTable.loads] using hp
  · exact State.takeTruckBeacon_tallyKept hsound hbounded hopened f
  · exact (TallyKept.of_loads hbounded hopened (by simp) fun p hp => by simpa [TruckTable.loads] using hp).trans_from
      (State.mergeItems_tallyFrom (partItems_carried f))
  · exact (TallyKept.of_loads hbounded hopened (by simp) fun p hp => by simpa [TruckTable.loads] using hp).trans_from
      (State.mergeItems_tallyFrom (noticeItems_carried f))

theorem State.acceptFrame_tallyKept (f : List Byte) : TallyKept s (s.acceptFrame f) := by
  have settled (u : State) : TallyFrom u u.settle := .of_same (by simp [TruckTable.loads]) (by simp)
  unfold State.acceptFrame
  dsimp only
  split_ifs
  · exact .of_loads hbounded hopened (by simp) fun p hp => by simpa [TruckTable.loads] using hp
  · have taken : TallyKept s (s.becomeBusy.dispatch f) :=
      (State.dispatch_tallyKept (s := s.becomeBusy) hsound hbounded hopened f).of_start rfl
    exact taken.trans_from (settled _)
  · exact .of_loads hbounded hopened rfl fun _ hp => hp

end

theorem Effect.tallyKept {c : Instr} (h : Effect s c t) (hsound : s.trucks.Sound) (hbounded : s.tally.Bounded)
    (hopened : s.RecordsOpen) : TallyKept s t := by
  have settled (u : State) : TallyFrom u u.settle := .of_same (by simp [TruckTable.loads]) (by simp)
  have handedOn (v : State) (scan : Scan) (hv : TallyFrom s v) : TallyKept s (v.handOn scan) :=
    .of_from hbounded hopened (hv.trans (v.handOn_tallyFrom scan))
  cases h with
  | reset cause _ => exact ⟨(by decide : State.reset.tally.Bounded), (by decide : State.reset.RecordsOpen), fun _ _ => .inr (by
      simp [State.held, State.reset, TruckTable.loads])⟩
  | skipped f _ _ => exact handedOn _ _ (.of_same rfl rfl)
  | scanEnd f _ _ => exact handedOn _ _ (.of_same rfl rfl)
  | timeout f _ _ => exact handedOn _ _ (.of_same rfl rfl)
  | truckLost n _ =>
    have hloads : (s.truckLost n).trucks.loads = s.trucks.loads := s.trucks.update_loads n fun _ _ _ => ⟨rfl, rfl⟩
    exact .of_from hbounded hopened ((TallyFrom.of_same hloads (by simp)).trans (settled _))
  | truckRemoved n e _ hfind =>
    exact (State.truckRemoved_tallyKept hsound hbounded hopened hfind).trans_from (settled _)
  | frameTaken x rest f _ _ _ =>
    exact (State.acceptFrame_tallyKept (s := { s with link := ((s.link.withoutHead rest).takeByte x).1 })
      hsound hbounded hopened f).of_start rfl
  | press k _ _ =>
    have stopped : TallyFrom s (s.stopDebounce k) := .of_same rfl rfl
    exact .of_from hbounded hopened (stopped.trans ((State.takePress_tallyFrom _ k).trans (settled _)))
  | shift _ =>
    obtain ⟨hown, hpeer, hkeys, hvalid, -⟩ := hbounded
    have hshift : TallyKept s (State.shiftReset { s with panel := { s.panel with shiftHold := none } }) :=
      ⟨⟨hown, hpeer, hkeys, hvalid, by simp [State.shiftReset, LoadTally.shiftReset]⟩, hopened,
        fun r hr => .inl ⟨r, hr, rfl, le_refl _⟩⟩
    exact hshift.trans_from (settled _)
  | _ => exact .of_from hbounded hopened (.of_same (by simp [TruckTable.loads]) (by simp))

end

/-- Settles O55: a record is held on to while its load is open, and the key of a record of an open load is its own. -/
theorem stepKeepsRecordsOpen : Obligations.StepKeepsRecordsOpen := by
  intro s t hsound hbounded hopened hstep
  have hkept : TallyKept s t := by
    refine step_answers hstep (fun c l n heffect => ?_) (.of_loads hbounded hopened rfl fun _ hp => hp)
      fun n => .of_loads hbounded hopened rfl fun _ hp => hp
    have h := heffect.tallyKept (by exact hsound) (by exact hbounded) (by exact hopened)
    exact h.of_start rfl
  refine ⟨hkept.bounded, hkept.opened, fun r hr q hq hcontributor htruck hepoch => ?_⟩
  have hkey : q.key = r.key := by simp [Contribution.key, hcontributor, htruck, hepoch]
  obtain ⟨p, hp, hpkey, hrevision⟩ | hclosed := hkept.held r hr
  · rwa [List.inj_on_of_nodup_map hkept.bounded.nodup hq hp (hkey.trans hpkey.symm)]
  · have hmem := t.recordsOpen_iff.mp hkept.opened q hq
    rw [htruck, hepoch] at hmem
    exact absurd hmem hclosed

end Sys2Proof.Machine
end


section
/-! The modes: what is empty outside the face, what the link port does in each station state, and that only ACTIVE queues
frames (chapters 7, 8 and 10). -/

namespace Sys2Proof.Machine

/-! ## Outside the face the tables are empty -/

section
variable {s t u : State} {c : Instr}

/-- On the face nothing need be empty. -/
theorem EmptyOffFace.of_onFace (hface : t.station.onFace = true) : t.EmptyOffFace := fun hoff => by
  rw [hface] at hoff
  cases hoff

/-- From one state off the face to another. -/
theorem EmptyOffFace.of_off (hs : s.EmptyOffFace) (hoff : s.station.onFace = false) (htrucks : t.trucks = s.trucks)
    (htally : t.tally = s.tally) (hroster : t.roster = s.roster) (hscan : t.scan = s.scan) : t.EmptyOffFace := by
  intro _
  rw [htrucks, htally, hroster, hscan]
  exact hs hoff

theorem settle_emptyOffFace (hs : s.EmptyOffFace) : s.settle.EmptyOffFace := by
  simpa [State.EmptyOffFace] using hs

/-- A scan in flight, a truck or a loader is there on the face only. -/
theorem EmptyOffFace.onFace_of_entry (hs : s.EmptyOffFace)
    (hentry : s.scan.inFlight ≠ none ∨ (∃ n e, s.trucks.find n = some e) ∨ ∃ n e, rosterFind s.roster n = some e) :
    s.station.onFace = true := by
  by_contra hoff
  obtain ⟨htrucks, -, -, -, hroster, -, hflight⟩ := hs (Bool.eq_false_iff.mpr hoff)
  obtain h | ⟨n, e, h⟩ | ⟨n, e, h⟩ := hentry
  · exact h hflight
  · simp [TruckTable.find, htrucks] at h
  · simp [rosterFind, hroster] at h

/-- In SELF_TEST a frame leads to LISTEN, to HALTED or to the next test frame. -/
theorem compareTestFrame_emptyOffFace (hs : s.EmptyOffFace) (hself : s.station = .selfTest) (f : List Byte) :
    (s.compareTestFrame f).EmptyOffFace := by
  have hoff : s.station.onFace = false := by rw [hself]; rfl
  unfold State.compareTestFrame
  split_ifs
  · exact EmptyOffFace.of_onFace (by rw [State.enterListen_station]; rfl)
  · exact EmptyOffFace.of_off hs hoff rfl rfl rfl rfl
  · exact EmptyOffFace.of_off hs hoff rfl rfl rfl rfl

/-- A frame on the face leaves the station on the face. -/
theorem State.dispatch_onFace (hface : s.station.onFace = true) (f : List Byte) : (s.dispatch f).station.onFace = true := by
  by_cases hother : frameSender f = s.settings.station
  · rw [State.dispatch, if_pos hother]
    unfold State.takeConflict
    split <;> first | rfl | exact hface
  · rw [(s.dispatch_follows hother).station]
    exact hface

theorem acceptFrame_emptyOffFace (hs : s.EmptyOffFace) (f : List Byte) : (s.acceptFrame f).EmptyOffFace := by
  unfold State.acceptFrame
  dsimp only
  split_ifs with hself hface
  · exact settle_emptyOffFace (compareTestFrame_emptyOffFace (s := s.becomeBusy) hs hself f)
  · exact EmptyOffFace.of_onFace (by rw [State.settle_station]; exact State.dispatch_onFace hface f)
  · exact hs

theorem validate_emptyOffFace (hs : s.EmptyOffFace) (hread : s.station = .configRead) (m : Image) :
    (s.validate m).EmptyOffFace :=
  EmptyOffFace.of_off hs (by rw [hread]; rfl) (by simp) (by simp) (by simp) (by simp)

theorem State.find_of_truckAgingDue {n : Nat} (hdue : s.truckAgingDue n = true) : ∃ e, s.trucks.find n = some e := by
  unfold State.truckAgingDue at hdue
  split at hdue
  · cases hdue
  next e hfind => exact ⟨e, hfind⟩

theorem State.find_of_rosterDue {n : Nat}
    (hdue : s.rosterQuietDue n = true ∨ s.rosterLostDue n = true ∨ s.rosterRemovalDue n = true) :
    ∃ e, rosterFind s.roster n = some e := by
  refine Option.ne_none_iff_exists'.mp fun hnone => ?_
  simp [State.rosterQuietDue, State.rosterLostDue, State.rosterRemovalDue, hnone] at hdue

theorem Effect.keeps_emptyOffFace (h : Effect s c t) (hs : s.EmptyOffFace) : t.EmptyOffFace := by
  have flying {f : ScanInFlight} (hflight : s.scan.inFlight = some f) : s.station.onFace = true :=
    EmptyOffFace.onFace_of_entry hs (.inl (by simp [hflight]))
  have listed {n : Nat} (hdue : s.rosterQuietDue n = true ∨ s.rosterLostDue n = true ∨ s.rosterRemovalDue n = true) :
      s.station.onFace = true := EmptyOffFace.onFace_of_entry hs (.inr (.inr ⟨n, State.find_of_rosterDue hdue⟩))
  have onFace (u : State) (hstation : u.station = s.station) (hface : s.station.onFace = true) : u.EmptyOffFace :=
    EmptyOffFace.of_onFace (by rw [hstation]; exact hface)
  cases h with
  | reset cause _ => exact (by decide : State.reset.EmptyOffFace)
  | release hreset => exact settle_emptyOffFace (EmptyOffFace.of_off hs (by rw [hreset]; rfl) rfl rfl rfl rfl)
  | image m hstation _ =>
    exact settle_emptyOffFace (validate_emptyOffFace
      (s := { s with startup := { s.startup with image := some m, read := .stopped, readTimer := none } }) hs hstation m)
  | readEnd hdue =>
    have hread : s.station = .configRead := by simp_all [State.readTimerDue]
    exact settle_emptyOffFace (EmptyOffFace.of_off hs (by rw [hread]; rfl) rfl rfl rfl rfl)
  | selfTestEnd hdue =>
    have hself : s.station = .selfTest := by simp_all [State.selfTestTimerDue]
    exact settle_emptyOffFace (EmptyOffFace.of_off hs (by rw [hself]; rfl) rfl rfl rfl rfl)
  | joined _ => exact EmptyOffFace.of_onFace (by rw [State.settle_station]; rfl)
  | request hdue _ => exact onFace _ rfl (by simp_all [State.scanTimerDue])
  | skipped f _ hflight => exact onFace _ (by simp) (flying hflight)
  | word w f hflight _ => exact onFace _ rfl (flying hflight)
  | scanEnd f hflight _ => exact onFace _ (by simp) (flying hflight)
  | closed f hflight _ => exact onFace _ rfl (flying hflight)
  | timeout f _ hflight => exact onFace _ (by simp) (flying hflight)
  | truckLost n hdue =>
    exact onFace _ (by simp) (EmptyOffFace.onFace_of_entry hs (.inr (.inl ⟨n, State.find_of_truckAgingDue hdue⟩)))
  | truckRemoved n e _ hfind => exact onFace _ (by simp) (EmptyOffFace.onFace_of_entry hs (.inr (.inl ⟨n, e, hfind⟩)))
  | loaderQuiet n hdue => exact onFace _ (by simp) (listed (.inl hdue))
  | loaderLost n hdue => exact onFace _ (by simp) (listed (.inr (.inl hdue)))
  | loaderRemoved n hdue => exact onFace _ (by simp) (listed (.inr (.inr hdue)))
  | frameTaken x rest f _ _ _ => exact acceptFrame_emptyOffFace (by exact hs) f
  | press k _ _ =>
    refine settle_emptyOffFace ?_
    cases hface : s.station.onFace with
    | true => exact onFace _ (by simp) hface
    | false =>
      have hignored : (s.stopDebounce k).takePress k = (s.stopDebounce k).setKey k (.down true) :=
        if_pos (by simp [hface])
      rw [hignored]
      exact hs
  | shift _ => simpa [State.EmptyOffFace, State.shiftReset, LoadTally.shiftReset] using hs
  | _ => simpa [State.EmptyOffFace] using hs

/-! ## The link port in each station state -/

section
variable (l : LinkPort) (now : Instant) (csIn : Bool)

/-- A character that falls due changes the transmitter and its two times only (R148, R149). -/
theorem LinkPort.characterDue_eq : l.characterDue now csIn = { l with
    transmitter := if csIn then .sending else .held, charStart := if csIn then some now else none,
    stallTimer := if csIn then none else some ⟨now.ms, 500⟩ } := by
  cases csIn <;> rfl

@[simp] theorem LinkPort.characterDue_receiveEnable : (l.characterDue now csIn).receiveEnable = l.receiveEnable := by
  rw [LinkPort.characterDue_eq]
@[simp] theorem LinkPort.characterDue_rdyOut : (l.characterDue now csIn).rdyOut = l.rdyOut := by
  rw [LinkPort.characterDue_eq]
@[simp] theorem LinkPort.characterDue_loopback : (l.characterDue now csIn).loopback = l.loopback := by
  rw [LinkPort.characterDue_eq]
@[simp] theorem LinkPort.characterDue_onLine : (l.characterDue now csIn).onLine = l.onLine := by
  rw [LinkPort.characterDue_eq]

end

/-- The link port and the frame on the line follow the station state when they are as before, and RDY_OUT comes on with the
receiver only. -/
theorem LinkFollowsStation.of_same (hs : s.LinkFollowsStation) (hstation : t.station = s.station)
    (hreceive : t.link.receiveEnable = s.link.receiveEnable)
    (hrdy : t.link.rdyOut = true → s.link.rdyOut = true ∨ s.link.receiveEnable = true)
    (hloopback : t.link.loopback = s.link.loopback) (honLine : t.link.onLine.isSome = s.link.onLine.isSome)
    (hframe : t.channel.frameOnLine = s.channel.frameOnLine) : t.LinkFollowsStation := by
  obtain ⟨hon, hrdyOn, hloop, hline, hmode⟩ := hs
  refine ⟨by rw [hreceive, hon, hstation], fun h => ?_, by rw [hloopback, hloop, hstation], ?_, ?_⟩
  · rw [hreceive]
    exact (hrdy h).elim hrdyOn id
  · rw [hframe, hline, honLine, hloopback]
  · rw [hframe, hstation]
    exact hmode

/-- The same link port and the same frame on the line. -/
theorem LinkFollowsStation.of_link (hs : s.LinkFollowsStation) (hstation : t.station = s.station) (hlink : t.link = s.link)
    (hframe : t.channel.frameOnLine = s.channel.frameOnLine) : t.LinkFollowsStation :=
  LinkFollowsStation.of_same hs hstation (by rw [hlink]) (by rw [hlink]; exact .inl) (by rw [hlink]) (by rw [hlink]) hframe

theorem settle_linkFollowsStation (hs : s.LinkFollowsStation) : s.settle.LinkFollowsStation :=
  LinkFollowsStation.of_link hs (by simp) (by simp) (by simp)

theorem State.Follows.frameOnLine (h : s.Follows t) : t.channel.frameOnLine = s.channel.frameOnLine := by
  obtain ⟨-, -, ns, hchannel, -⟩ := h
  rw [hchannel, ChannelAccess.queueNotices_eq]

/-- Off ACTIVE and SILENT no frame is on the line. -/
theorem LinkFollowsStation.no_frame (hs : s.LinkFollowsStation) (hactive : s.station ≠ .active)
    (hsilent : s.station ≠ .silent) : s.channel.frameOnLine = false := by
  obtain ⟨-, -, -, -, hmode⟩ := hs
  exact Bool.eq_false_iff.mpr fun h => (hmode h).elim hactive hsilent

/-- The loopback released on the way to HALTED, with the receiver off. -/
theorem enterHalted_linkFollowsStation (hs : s.LinkFollowsStation) (hoff : s.station.onFace = false) (reason : HaltReason) :
    (s.enterHalted reason).LinkFollowsStation := by
  have hactive : s.station ≠ .active := fun h => by simp [h, StationState.onFace] at hoff
  have hsilent : s.station ≠ .silent := fun h => by simp [h, StationState.onFace] at hoff
  have hframe := LinkFollowsStation.no_frame hs hactive hsilent
  obtain ⟨hon, hrdyOn, -, -, -⟩ := hs
  refine ⟨hon.trans hoff, hrdyOn, rfl, hframe, fun h => ?_⟩
  exact absurd (hframe.symm.trans h) (by decide)

theorem enterListen_linkFollowsStation (hframe : s.channel.frameOnLine = false) : s.enterListen.LinkFollowsStation := by
  unfold State.enterListen
  dsimp only
  split_ifs <;> exact ⟨rfl, fun _ => rfl, rfl, hframe, fun h => absurd (hframe.symm.trans h) (by decide)⟩

theorem compareTestFrame_linkFollowsStation (hs : s.LinkFollowsStation) (hself : s.station = .selfTest) (f : List Byte) :
    (s.compareTestFrame f).LinkFollowsStation := by
  unfold State.compareTestFrame
  split_ifs
  · exact enterListen_linkFollowsStation (LinkFollowsStation.no_frame hs (by simp [hself]) (by simp [hself]))
  · exact hs
  · exact enterHalted_linkFollowsStation hs (by rw [hself]; rfl) _

theorem takeConflict_linkFollowsStation (hs : s.LinkFollowsStation) : s.takeConflict.LinkFollowsStation := by
  obtain ⟨hon, hrdyOn, hloop, hline, hmode⟩ := id hs
  unfold State.takeConflict
  split
  case h_1 hlisten =>
    exact ⟨by rw [hlisten] at hon; exact hon, hrdyOn, by rw [hlisten] at hloop; exact hloop, hline, fun _ => .inr rfl⟩
  case h_2 hactive =>
    exact ⟨by rw [hactive] at hon; exact hon, hrdyOn, by rw [hactive] at hloop; exact hloop, hline, fun _ => .inr rfl⟩
  all_goals exact hs

theorem acceptFrame_linkFollowsStation (hs : s.LinkFollowsStation) (f : List Byte) :
    (s.acceptFrame f).LinkFollowsStation := by
  have hbusy : s.becomeBusy.LinkFollowsStation := hs
  unfold State.acceptFrame
  dsimp only
  split_ifs with hself
  · exact settle_linkFollowsStation (compareTestFrame_linkFollowsStation hbusy hself f)
  · refine settle_linkFollowsStation ?_
    by_cases hother : frameSender f = s.becomeBusy.settings.station
    · rw [State.dispatch, if_pos hother]
      exact takeConflict_linkFollowsStation hbusy
    · have hfollows := s.becomeBusy.dispatch_follows hother
      exact LinkFollowsStation.of_link hbusy hfollows.station (by simp) hfollows.frameOnLine
  · exact hbusy

theorem validate_linkFollowsStation (hs : s.LinkFollowsStation) (hread : s.station = .configRead) (m : Image) :
    (s.validate m).LinkFollowsStation := by
  have hoff : s.station.onFace = false := by rw [hread]; rfl
  unfold State.validate
  split_ifs
  · exact enterHalted_linkFollowsStation (by exact hs) (by exact hoff) _
  · exact enterHalted_linkFollowsStation (by exact hs) (by exact hoff) _
  · have hframe := LinkFollowsStation.no_frame hs (by simp [hread]) (by simp [hread])
    obtain ⟨hon, hrdyOn, -, -, -⟩ := hs
    refine ⟨?_, fun h => ?_, ?_, ?_, fun h => ?_⟩
    · simpa [State.enterSelfTest, State.handTestFrame, LinkPort.beginFrame, StationState.onFace] using hon.trans hoff
    · have hreceive := hrdyOn (by simpa [State.enterSelfTest, State.handTestFrame, LinkPort.beginFrame] using h)
      simpa [State.enterSelfTest, State.handTestFrame, LinkPort.beginFrame] using hreceive
    · simp [State.enterSelfTest, State.handTestFrame, LinkPort.beginFrame]
    · simpa [State.enterSelfTest, State.handTestFrame, LinkPort.beginFrame] using hframe
    · rw [State.enterSelfTest_channel, State.handSettings_channel] at h
      exact absurd (hframe.symm.trans h) (by decide)

theorem LinkPort.store_frame (l : LinkPort) (b : Byte) (gap ownSend : Bool) :
    (l.store b gap ownSend).receiveEnable = l.receiveEnable ∧ (l.store b gap ownSend).loopback = l.loopback ∧
      (l.store b gap ownSend).onLine = l.onLine ∧ ((l.store b gap ownSend).rdyOut = true → l.rdyOut = true) := by
  unfold LinkPort.store
  split_ifs <;> simp

/-- The assembler leaves all but its own part of the link port alone. -/
theorem LinkPort.takeByte_frame (l : LinkPort) (x : RxByte) : ∃ state buffer broken,
    (l.takeByte x).1 = { l with assembler := state, buffer := buffer, broken := broken } := by
  unfold LinkPort.takeByte LinkPort.treat LinkPort.finish LinkPort.keep LinkPort.discard LinkPort.begin
  (repeat' split) <;> exact ⟨_, _, _, rfl⟩

theorem receiveByte_linkFollowsStation (hs : s.LinkFollowsStation) (b : Byte) (ownSend : Bool) :
    (s.receiveByte b ownSend).LinkFollowsStation := by
  obtain ⟨hreceive, hloopback, honLine, hrdy⟩ := s.link.store_frame b (s.gapSince s.link.lastArrival) ownSend
  exact LinkFollowsStation.of_same hs rfl hreceive (fun h => .inl (hrdy h)) hloopback (congrArg Option.isSome honLine) rfl

theorem takenByte_linkFollowsStation (hs : s.LinkFollowsStation) (x : RxByte) (rest : List RxByte) :
    State.LinkFollowsStation { s with link := ((s.link.withoutHead rest).takeByte x).1 } := by
  obtain ⟨state, buffer, broken, htaken⟩ := (s.link.withoutHead rest).takeByte_frame x
  rw [htaken]
  refine LinkFollowsStation.of_same hs rfl rfl (fun h => ?_) rfl rfl rfl
  simp only [LinkPort.withoutHead] at h
  split_ifs at h with hon
  · exact .inr hon.1
  · exact .inl h

theorem discardOnGap_linkFollowsStation (hs : s.LinkFollowsStation) : s.discardOnGap.LinkFollowsStation := by
  unfold State.discardOnGap
  split_ifs <;> exact hs

/-- A looped character is of a test frame, in SELF_TEST, where no frame is on the line for channel access. -/
theorem loopedCharacterSent_linkFollowsStation (hs : s.LinkFollowsStation) (hloop : s.link.loopback = true) (f : OnLine) :
    (s.loopedCharacterSent f).LinkFollowsStation := by
  have hreceived := receiveByte_linkFollowsStation hs (f.characters.getD f.sent 0) false
  have hloop' : (s.receiveByte (f.characters.getD f.sent 0) false).link.loopback = true :=
    (s.link.store_frame _ _ _).2.1.trans hloop
  obtain ⟨hon, hrdyOn, hloopback, hline, hmode⟩ := hreceived
  rw [hloop', Bool.not_true, Bool.and_false] at hline
  have looped (l : LinkPort) (now : Instant) (hl : l.loopback = true) :
      (s.receiveByte (f.characters.getD f.sent 0) false).channel.frameOnLine =
        ((l.characterDue now true).onLine.isSome && !(l.characterDue now true).loopback) := by
    rw [LinkPort.characterDue_loopback, hl, Bool.not_true, Bool.and_false]
    exact hline
  unfold State.loopedCharacterSent
  dsimp only
  split_ifs
  · exact ⟨by simpa using hon, by simpa using hrdyOn, by simpa using hloopback, looped _ _ hloop', hmode⟩
  · unfold State.handTestFrame LinkPort.beginFrame
    exact ⟨by simpa [LinkPort.lineFree] using hon, by simpa [LinkPort.lineFree] using hrdyOn,
      by simpa [LinkPort.lineFree] using hloopback, looped _ _ hloop', hmode⟩
  · exact ⟨hon, hrdyOn, hloopback, by simpa [LinkPort.lineFree] using hline, hmode⟩

/-- The line free and the end of the frame reported. -/
theorem endOwnFrame_linkFollowsStation (hs : s.LinkFollowsStation) (hstation : u.station = s.station)
    (hreceive : u.link.receiveEnable = s.link.receiveEnable) (hrdy : u.link.rdyOut = s.link.rdyOut)
    (hloop : u.link.loopback = s.link.loopback) (honLine : u.link.onLine = none) : u.endOwnFrame.LinkFollowsStation := by
  obtain ⟨hon, hrdyOn, hloopback, -, -⟩ := hs
  rw [← hstation, ← hreceive] at hon
  rw [← hrdy, ← hreceive] at hrdyOn
  rw [← hstation, ← hloop] at hloopback
  exact ⟨hon, hrdyOn, hloopback, by simp [State.endOwnFrame, honLine], fun h => by cases h⟩

theorem lineCharacterSent_linkFollowsStation {f : OnLine} (hs : s.LinkFollowsStation) (hline : s.link.onLine = some f) :
    (s.lineCharacterSent f).LinkFollowsStation := by
  unfold State.lineCharacterSent
  split_ifs
  · exact LinkFollowsStation.of_same hs rfl (by simp) (fun h => .inl (by simpa using h)) (by simp) (by simp [hline]) rfl
  · exact settle_linkFollowsStation (endOwnFrame_linkFollowsStation hs rfl rfl rfl rfl rfl)

theorem endStall_linkFollowsStation (hs : s.LinkFollowsStation) : s.endStall.LinkFollowsStation := by
  unfold State.endStall
  split_ifs <;> exact hs

/-- A frame handed to the transmitter in ACTIVE is on the line for channel access. -/
theorem frameHanded_linkFollowsStation (hs : s.LinkFollowsStation) (hactive : s.station = .active) {fell csIn : Bool}
    {body : List Byte} {channel : ChannelAccess} {now : Instant} :
    State.LinkFollowsStation { s.readCsIn fell with
      channel := { channel with holdOff := none, frameOnLine := true, carrierWatch := none }
      link := s.link.beginFrame body now csIn } := by
  obtain ⟨hon, hrdyOn, hloopback, -, -⟩ := hs
  refine ⟨?_, ?_, ?_, ?_, fun _ => .inl hactive⟩
  · simpa [LinkPort.beginFrame] using hon
  · simpa [LinkPort.beginFrame] using hrdyOn
  · simpa [LinkPort.beginFrame] using hloopback
  · simp [LinkPort.beginFrame, hloopback, hactive]

theorem Effect.keeps_linkFollowsStation (h : Effect s c t) (hs : s.LinkFollowsStation) : t.LinkFollowsStation := by
  have handedOn (v : State) (scan : Scan) (hv : v.LinkFollowsStation) : (v.handOn scan).LinkFollowsStation := by
    obtain ⟨u, hu, hfollows⟩ := v.handOn_eq_settle scan
    have hlink : (v.handOn scan).link = v.link := by simp
    rw [hu, State.settle_link] at hlink
    rw [hu]
    exact settle_linkFollowsStation (LinkFollowsStation.of_link hv hfollows.station hlink hfollows.frameOnLine)
  cases h with
  | reset cause _ => exact (by decide : State.reset.LinkFollowsStation)
  | release hreset =>
    obtain ⟨hon, hrdyOn, hloopback, hline, hmode⟩ := hs
    rw [hreset] at hon hloopback hmode
    exact settle_linkFollowsStation ⟨hon, hrdyOn, hloopback, hline, fun h => by simpa using hmode h⟩
  | image m hstation _ =>
    exact settle_linkFollowsStation (validate_linkFollowsStation (by exact hs) (by exact hstation) m)
  | readEnd hdue =>
    have hread : s.station = .configRead := by simp_all [State.readTimerDue]
    exact settle_linkFollowsStation (enterHalted_linkFollowsStation hs (by rw [hread]; rfl) _)
  | selfTestEnd hdue =>
    have hself : s.station = .selfTest := by simp_all [State.selfTestTimerDue]
    exact settle_linkFollowsStation (enterHalted_linkFollowsStation hs (by rw [hself]; rfl) _)
  | joined hdue =>
    have hlisten : s.station = .listen := by simp_all [State.joinTimerDue]
    obtain ⟨hon, hrdyOn, hloopback, hline, -⟩ := hs
    rw [hlisten] at hon hloopback
    exact settle_linkFollowsStation ⟨hon, hrdyOn, hloopback, hline, fun _ => .inl rfl⟩
  | skipped f _ _ => exact handedOn _ _ hs
  | scanEnd f _ _ => exact handedOn _ _ hs
  | timeout f _ _ => exact handedOn _ _ hs
  | frameHanded fell body channel hdue _ =>
    exact frameHanded_linkFollowsStation hs (by simp_all [State.holdOffDue])
  | received x _ _ _ _ =>
    exact receiveByte_linkFollowsStation hs (decodeCharacter s.settings.rxdInverted x).byte s.link.onLine.isSome
  | framingError x _ _ _ _ => exact hs
  | byteTaken x rest _ _ _ => exact discardOnGap_linkFollowsStation (takenByte_linkFollowsStation hs x rest)
  | frameTaken x rest f _ _ _ => exact acceptFrame_linkFollowsStation (takenByte_linkFollowsStation hs x rest) f
  | gap => exact discardOnGap_linkFollowsStation hs
  | blocksDone => exact hs
  | looped fell f _ _ hloop => exact loopedCharacterSent_linkFollowsStation (by exact hs) (by exact hloop) f
  | sent fell f _ hline _ => exact lineCharacterSent_linkFollowsStation (by exact hs) (by exact hline)
  | csInResumes _ =>
    refine settle_linkFollowsStation (endStall_linkFollowsStation ?_)
    unfold LinkPort.resume
    split_ifs
    · exact LinkFollowsStation.of_same hs rfl (by simp) (fun h => .inl (by simpa using h)) (by simp) (by simp) rfl
    · exact hs
  | stalled _ =>
    refine settle_linkFollowsStation ?_
    unfold State.reportStall
    split_ifs <;> exact endOwnFrame_linkFollowsStation hs rfl rfl rfl rfl rfl
  | press k _ _ =>
    have hfollows := (s.stopDebounce k).takePress_follows k
    exact settle_linkFollowsStation (LinkFollowsStation.of_link hs hfollows.station (by simp) hfollows.frameOnLine)
  | _ => exact LinkFollowsStation.of_link hs (by simp) (by simp) (by simp)

/-! ## Only ACTIVE queues frames (R119, R131) -/

theorem QueueOnlyActive.of_channel (hs : s.QueueOnlyActive) (hstation : t.station = s.station ∨ s.station ≠ .active)
    (hnotices : t.channel.notices = s.channel.notices) (hparts : t.channel.parts = s.channel.parts)
    (htimer : t.channel.beaconTimer = s.channel.beaconTimer)
    (hholdOff : t.channel.holdOff = s.channel.holdOff ∨ t.channel.holdOff = none) : t.QueueOnlyActive := by
  intro hoff
  have hinactive : s.station ≠ .active := hstation.elim (fun h => h ▸ hoff) id
  obtain ⟨hno, hpo, hto, hho⟩ := hs hinactive
  exact ⟨hnotices.trans hno, hparts.trans hpo, htimer.trans hto, hholdOff.elim (·.trans hho) id⟩

/-- In ACTIVE the queue is free to hold frames. -/
theorem QueueOnlyActive.of_active (hactive : t.station = .active) : t.QueueOnlyActive := fun h => absurd hactive h

theorem settle_queueOnlyActive (hs : s.QueueOnlyActive) : s.settle.QueueOnlyActive := by
  intro hoff
  rw [State.settle_station] at hoff
  obtain ⟨hnotices, hparts, htimer, hholdOff⟩ := hs hoff
  refine ⟨by simpa using hnotices, by simpa using hparts, by simpa using htimer, ?_⟩
  rw [State.settle_holdOff, State.settledHoldOff, if_neg fun h => hoff h.1]
  exact hholdOff

theorem State.Follows.queueOnlyActive (h : s.Follows t) (hs : s.QueueOnlyActive) : t.QueueOnlyActive := by
  obtain ⟨hstation, -, ns, hchannel, hns⟩ := h
  intro hoff
  rw [hstation] at hoff
  rw [hchannel, hns hoff]
  exact hs hoff

theorem enterListen_queueOnlyActive (hs : s.QueueOnlyActive) (hself : s.station = .selfTest) :
    s.enterListen.QueueOnlyActive := by
  have hoff : s.station ≠ .active := by simp [hself]
  unfold State.enterListen
  dsimp only
  split_ifs
  · exact QueueOnlyActive.of_channel hs (.inr hoff) rfl rfl rfl (.inr rfl)
  · exact QueueOnlyActive.of_channel hs (.inr hoff) rfl rfl rfl (.inl rfl)

theorem compareTestFrame_queueOnlyActive (hs : s.QueueOnlyActive) (hself : s.station = .selfTest) (f : List Byte) :
    (s.compareTestFrame f).QueueOnlyActive := by
  unfold State.compareTestFrame
  split_ifs
  · exact enterListen_queueOnlyActive hs hself
  · exact hs
  · exact QueueOnlyActive.of_channel hs (.inr (by simp [hself])) rfl rfl rfl (.inl rfl)

theorem takeConflict_queueOnlyActive (hs : s.QueueOnlyActive) : s.takeConflict.QueueOnlyActive := by
  unfold State.takeConflict
  split
  case h_1 hlisten => exact QueueOnlyActive.of_channel hs (.inr (by simp [hlisten])) rfl rfl rfl (.inl rfl)
  case h_2 => exact fun _ => ⟨rfl, rfl, rfl, rfl⟩
  all_goals exact hs

theorem acceptFrame_queueOnlyActive (hs : s.QueueOnlyActive) (f : List Byte) : (s.acceptFrame f).QueueOnlyActive := by
  have hbusy : s.becomeBusy.QueueOnlyActive := hs
  unfold State.acceptFrame
  dsimp only
  split_ifs with hself
  · exact settle_queueOnlyActive (compareTestFrame_queueOnlyActive hbusy hself f)
  · refine settle_queueOnlyActive ?_
    by_cases hother : frameSender f = s.becomeBusy.settings.station
    · rw [State.dispatch, if_pos hother]
      exact takeConflict_queueOnlyActive hbusy
    · exact (s.becomeBusy.dispatch_follows hother).queueOnlyActive hbusy
  · exact hbusy

theorem Effect.keeps_queueOnlyActive (h : Effect s c t) (hs : s.QueueOnlyActive) : t.QueueOnlyActive := by
  have handedOn (v : State) (scan : Scan) (hv : v.QueueOnlyActive) : (v.handOn scan).QueueOnlyActive := by
    obtain ⟨u, hu, hfollows⟩ := v.handOn_eq_settle scan
    rw [hu]
    exact settle_queueOnlyActive (hfollows.queueOnlyActive hv)
  cases h with
  | reset cause _ => exact (by decide : State.reset.QueueOnlyActive)
  | release hreset =>
    exact settle_queueOnlyActive (QueueOnlyActive.of_channel hs (.inr (by simp [hreset])) rfl rfl rfl (.inl rfl))
  | image m hstation _ =>
    exact settle_queueOnlyActive (QueueOnlyActive.of_channel hs (.inr (by simp [hstation])) (by simp) (by simp) (by simp)
      (.inl (by simp)))
  | readEnd hdue =>
    have hread : s.station = .configRead := by simp_all [State.readTimerDue]
    exact settle_queueOnlyActive (QueueOnlyActive.of_channel hs (.inr (by simp [hread])) rfl rfl rfl (.inl rfl))
  | selfTestEnd hdue =>
    have hself : s.station = .selfTest := by simp_all [State.selfTestTimerDue]
    exact settle_queueOnlyActive (QueueOnlyActive.of_channel hs (.inr (by simp [hself])) rfl rfl rfl (.inl rfl))
  | joined _ => exact QueueOnlyActive.of_active (by rw [State.settle_station]; rfl)
  | skipped f _ _ => exact handedOn _ _ hs
  | scanEnd f _ _ => exact handedOn _ _ hs
  | timeout f _ _ => exact handedOn _ _ hs
  | beacon hdue => exact QueueOnlyActive.of_active (by rw [State.settle_station]; simp_all [State.beaconTimerDue])
  | holdOffIdle fell hdue _ => exact QueueOnlyActive.of_active (by simp_all [State.holdOffDue])
  | frameHanded fell body channel hdue _ => exact QueueOnlyActive.of_active (by simp_all [State.holdOffDue])
  | frameTaken x rest f _ _ _ => exact acceptFrame_queueOnlyActive (by exact hs) f
  | riseWatched _ _ _ => exact QueueOnlyActive.of_channel hs (.inl rfl) rfl rfl rfl (.inr rfl)
  | fallWatched _ _ => exact settle_queueOnlyActive hs
  | carrierStuck _ => exact settle_queueOnlyActive hs
  | sent fell f _ _ _ =>
    unfold State.lineCharacterSent
    split_ifs
    · exact hs
    · exact settle_queueOnlyActive hs
  | csInResumes _ =>
    unfold State.endStall
    split_ifs <;> exact settle_queueOnlyActive hs
  | stalled _ =>
    unfold State.reportStall
    split_ifs <;> exact settle_queueOnlyActive hs
  | press k _ _ => exact settle_queueOnlyActive (((s.stopDebounce k).takePress_follows k).queueOnlyActive hs)
  | tareEnd | truckLost | truckRemoved | loaderQuiet | loaderLost | loaderRemoved | keyRelease | shift =>
    exact settle_queueOnlyActive (QueueOnlyActive.of_channel hs (.inl (by simp)) (by simp) (by simp) (by simp)
      (.inl (by simp)))
  | _ => exact QueueOnlyActive.of_channel hs (.inl (by simp)) (by simp) (by simp) (by simp) (.inl (by simp))

end

/-- Settles O56: each of the three is kept by every effect. -/
theorem stepKeepsTheModes : Obligations.StepKeepsTheModes := by
  intro s t hempty hlink hqueue hstep
  exact ⟨step_keeps (P := State.EmptyOffFace) (fun _ _ _ h => h.keeps_emptyOffFace) (fun _ _ _ h => h) (fun _ _ h => h)
      hempty hstep,
    step_keeps (P := State.LinkFollowsStation) (fun _ _ _ h => h.keeps_linkFollowsStation) (fun _ _ _ h => h)
      (fun _ _ h => h) hlink hstep,
    step_keeps (P := State.QueueOnlyActive) (fun _ _ _ h => h.keeps_queueOnlyActive) (fun _ _ _ h => h)
      (fun _ _ h => h) hqueue hstep⟩

end Sys2Proof.Machine
end


section
/-! The weigh unit stands as the table of chapter 4.1 gives, beside the sensor fault and the phase, and the zero force in
use stays below the span force (R61, R66, R73, R81 to R85). -/

namespace Sys2Proof.Machine

/-- The weigh unit beside a sensor fault and a phase, and, where it counts, its zero force below the span force. -/
structure WeighUnit.Stands (c : Settings) (zero : Prop) (fault : Bool) (phase : Phase) (w : WeighUnit) : Prop where
  sound : w.Sound
  blocked : w.state = .blocked ↔ fault = true
  tare : w.purpose = some .tare → phase = .empty
  request : w.tareRequest.isSome = true ↔ w.purpose = some .tare
  zeroForce : zero → w.zeroForce < c.spanForce

section
variable {c : Settings} {zero : Prop} {fault : Bool} {phase : Phase} {w : WeighUnit}

/-- The unit at rest for no purpose, with nothing held. -/
theorem WeighUnit.Stands.idle (hw : w.Stands c zero false phase) (hheld : w.held = none) :
    WeighUnit.Stands c zero false phase { w.rest .idle none with tareRequest := none } :=
  ⟨by simp [WeighUnit.Sound, WeighUnit.rest, WeighUnit.emptied, hheld], by simp [WeighUnit.rest],
    by simp [WeighUnit.rest], by simp [WeighUnit.rest], hw.zeroForce⟩

/-- The unit that holds a result, and runs nothing. -/
theorem WeighUnit.Stands.held (hw : w.Stands c zero false phase) (htare : w.purpose ≠ some .tare) {held : Option HeldResult}
    (hheld : held.isSome = true) : WeighUnit.Stands c zero false phase { w.rest .held none with held := held } :=
  ⟨by simp [WeighUnit.Sound, WeighUnit.rest, hheld], by simp [WeighUnit.rest], by simp [WeighUnit.rest],
    by simpa [WeighUnit.rest, WeighUnit.emptied, hw.request] using htare, hw.zeroForce⟩

/-- The unit armed for a weighing. -/
theorem WeighUnit.Stands.armed (hw : w.Stands c zero false phase) (htare : w.purpose ≠ some .tare) (hheld : w.held = none)
    (retakes : Nat) :
    WeighUnit.Stands c zero false phase { w.rest .armed (some .weigh) with retakes := retakes } :=
  ⟨by simp [WeighUnit.Sound, WeighUnit.rest, WeighUnit.emptied, hheld], by simp [WeighUnit.rest],
    by simp [WeighUnit.rest], by simpa [WeighUnit.rest, WeighUnit.emptied, hw.request] using htare, hw.zeroForce⟩

/-- Sums, counts and previous boom angles do not matter. -/
theorem WeighUnit.Stands.of_same {v : WeighUnit} (hw : w.Stands c zero fault phase) (hstate : v.state = w.state)
    (hpurpose : v.purpose = w.purpose) (hheld : v.held = w.held) (htimer : v.delayTimer = w.delayTimer)
    (hboom : w.highestBoom.isSome = true → v.highestBoom.isSome = true) (hrequest : v.tareRequest = w.tareRequest)
    (hzero : v.zeroForce = w.zeroForce) : v.Stands c zero fault phase := by
  obtain ⟨⟨htare, hsound⟩, hblocked, hphase, hrun, hforce⟩ := hw
  refine ⟨⟨by rwa [hpurpose, hheld], ?_⟩, by rwa [hstate], by rwa [hpurpose], by rwa [hrequest, hpurpose], by rwa [hzero]⟩
  rw [hstate, hpurpose, hheld, htimer]
  cases hw : w.state <;> rw [hw] at hsound
  case delaying => exact ⟨hsound.1, hsound.2.1, hboom hsound.2.2⟩
  case capturing => exact ⟨hsound.1, hboom hsound.2⟩
  all_goals exact hsound

end

section
variable {s : State} {zero : Prop} {fault : Bool} {phase : Phase}

/-! ## Captures (R67 to R77, R84, R85) -/

theorem State.endTare_stands (hs : s.weigh.Stands s.settings zero false phase) (htare : s.weigh.purpose = some .tare) :
    (s.endTare .idle).weigh.Stands s.settings zero false phase :=
  hs.idle (hs.sound.1 htare)

theorem State.abortCapture_stands (hs : s.weigh.Stands s.settings zero false phase) :
    s.abortCapture.weigh.Stands s.settings zero false phase := by
  unfold State.abortCapture
  split_ifs with htare hheld hretakes
  · exact State.endTare_stands hs htare
  · exact hs.held htare hheld
  · exact hs.armed htare (by simpa using hheld) _
  · exact hs.held htare rfl

theorem tareAccepted_lt {c : Settings} {mean : Int} (haccepted : tareAccepted c mean = true) :
    mean.toNat < c.spanForce := by
  simp only [tareAccepted, Bool.and_eq_true, decide_eq_true_eq] at haccepted
  omega

theorem State.completeCapture_stands (hs : s.weigh.Stands s.settings zero false phase) :
    s.completeCapture.weigh.Stands s.settings zero false phase := by
  unfold State.completeCapture State.completeTare
  dsimp only
  split_ifs with htare hfew haccepted
  · exact State.endTare_stands hs htare
  · obtain ⟨hsound, hblocked, hphase, hrequest, -⟩ := hs.idle (hs.sound.1 htare)
    exact ⟨hsound, hblocked, hphase, hrequest, fun _ => tareAccepted_lt haccepted⟩
  · exact State.endTare_stands hs htare
  · exact hs.held htare rfl

theorem WeighUnit.sample_stands {w : WeighUnit} {c : Settings} (hw : w.Stands c zero fault phase) (boom : Int)
    (r : LoadReading) : (w.sample c boom r).Stands c zero fault phase := by
  unfold WeighUnit.sample
  split_ifs
  · exact hw
  · exact hw.of_same rfl rfl rfl rfl id rfl rfl
  · exact hw
  · exact hw.of_same rfl rfl rfl rfl id rfl rfl

theorem WeighUnit.raiseHighest_stands {w : WeighUnit} {c : Settings} (hw : w.Stands c zero fault phase) (boom : Int) :
    (w.raiseHighest boom).Stands c zero fault phase :=
  hw.of_same rfl rfl rfl rfl (fun _ => rfl) rfl rfl

theorem State.scanInCapture_stands (hs : s.weigh.Stands s.settings zero false phase) (boom : Int)
    (load : Option LoadReading) : (s.scanInCapture boom load).weigh.Stands s.settings zero false phase := by
  unfold State.scanInCapture
  split
  · exact State.abortCapture_stands hs
  · have hraised := WeighUnit.raiseHighest_stands hs boom
    dsimp only
    split_ifs
    · exact State.abortCapture_stands (s := { s with weigh := s.weigh.raiseHighest boom }) hraised
    · exact State.completeCapture_stands (s := { s with weigh := s.weigh.raiseHighest boom }) hraised
    · exact WeighUnit.sample_stands hraised boom _

/-- A capture that starts keeps the purpose, or runs a reweigh (R67, R76). -/
theorem WeighUnit.startCapture_stands {w : WeighUnit} {c : Settings} (hw : w.Stands c zero false phase) (now : PartTime)
    (delay : Nat) (boom : Int) : (w.startCapture now delay boom).Stands c zero false phase := by
  obtain ⟨⟨htare, -⟩, -, hphase, hrequest, hforce⟩ := hw
  have hpurpose : w.purpose.or (some .weigh) = some .tare ↔ w.purpose = some .tare := by
    cases w.purpose <;> simp
  have hsome : (w.purpose.or (some .weigh)).isSome = true := by simp
  unfold WeighUnit.startCapture
  dsimp only
  split_ifs
  · exact ⟨⟨fun h => htare (hpurpose.mp h), hsome, rfl⟩, by simp [WeighUnit.rest], fun h => hphase (hpurpose.mp h),
      hrequest.trans hpurpose.symm, hforce⟩
  · exact ⟨⟨fun h => htare (hpurpose.mp h), hsome, rfl, rfl⟩, by simp [WeighUnit.rest], fun h => hphase (hpurpose.mp h),
      hrequest.trans hpurpose.symm, hforce⟩

theorem State.crossing_stands (hs : s.weigh.Stands s.settings zero false phase) (boom : Int) (load : Option LoadReading) :
    (s.crossing boom load).weigh.Stands s.settings zero false phase := by
  have hstarted := WeighUnit.startCapture_stands hs s.partTime s.settings.captureDelay boom
  unfold State.crossing
  dsimp only
  split_ifs
  · exact State.scanInCapture_stands
      (s := { s with weigh := s.weigh.startCapture s.partTime s.settings.captureDelay boom }) hstarted boom load
  · exact hstarted

theorem State.scanInDelay_stands (hs : s.weigh.Stands s.settings zero false phase) (boom : Int) :
    (s.scanInDelay boom).weigh.Stands s.settings zero false phase := by
  have hraised := WeighUnit.raiseHighest_stands hs boom
  unfold State.scanInDelay
  dsimp only
  split_ifs
  · exact State.abortCapture_stands (s := { s with weigh := s.weigh.raiseHighest boom }) hraised
  · exact hraised

/-- Outside BLOCKED there is no fault. -/
theorem WeighUnit.Stands.no_fault {w : WeighUnit} {c : Settings} (hw : w.Stands c zero fault phase)
    (hstate : w.state ≠ .blocked) : fault = false :=
  Bool.eq_false_iff.mpr fun h => hstate (hw.blocked.mpr h)

theorem State.usableScan_stands (hs : s.weigh.Stands s.settings zero fault phase) (boom : Int)
    (load : Option LoadReading) : (s.usableScan boom load).weigh.Stands s.settings zero fault phase := by
  have clear (hstate : s.weigh.state ≠ .blocked) : fault = false := hs.no_fault hstate
  unfold State.usableScan
  dsimp only
  split
  case h_1 => exact hs
  case h_2 => exact hs
  case h_3 hstate =>
    obtain rfl := clear (by simp [hstate])
    split_ifs
    · exact State.crossing_stands hs boom load
    · exact hs
  case h_4 hstate =>
    obtain rfl := clear (by simp [hstate])
    split_ifs
    · exact State.crossing_stands hs boom load
    · exact hs
  case h_5 hstate =>
    obtain rfl := clear (by simp [hstate])
    exact State.scanInDelay_stands hs boom
  case h_6 hstate =>
    obtain rfl := clear (by simp [hstate])
    exact State.scanInCapture_stands hs boom load

theorem State.weighScan_stands (hs : s.weigh.Stands s.settings zero fault phase) (scan : Scan) :
    (s.weighScan scan).weigh.Stands s.settings zero fault phase := by
  cases scan with
  | notUsable =>
    unfold State.weighScan
    dsimp only
    split_ifs with hstate
    · obtain rfl := hs.no_fault (by simp [hstate])
      exact State.abortCapture_stands hs
    · exact hs
  | usable boom tilt d brake load =>
    exact (State.usableScan_stands hs boom load).of_same rfl rfl rfl rfl id rfl rfl

/-! ## The sensor fault (R81, R82) -/

theorem State.blockWeigh_stands (hs : s.weigh.Stands s.settings zero fault phase) :
    s.blockWeigh.weigh.Stands s.settings zero true phase := by
  unfold State.blockWeigh
  split_ifs with htare
  · exact ⟨by simp [State.endTare, WeighUnit.Sound, WeighUnit.rest], by simp [State.endTare, WeighUnit.rest],
      by simp [State.endTare, WeighUnit.rest], by simp [State.endTare, WeighUnit.rest], hs.zeroForce⟩
  · exact ⟨by simp [WeighUnit.Sound, WeighUnit.rest], by simp [WeighUnit.rest], by simp [WeighUnit.rest],
      by simpa [WeighUnit.rest, WeighUnit.emptied, hs.request] using htare, hs.zeroForce⟩

theorem State.unblockWeigh_stands (hs : s.weigh.Stands s.settings zero true phase) :
    s.unblockWeigh.weigh.Stands s.settings zero false phase := by
  have hblocked := hs.blocked.mpr rfl
  have hpurpose : s.weigh.purpose = none := by
    have := hs.sound.2
    rwa [hblocked] at this
  have hrequest : s.weigh.tareRequest = none := by
    have := hs.request
    simpa [hpurpose] using this
  unfold State.unblockWeigh
  split_ifs with hheld hloaded <;>
    exact ⟨by simp_all [WeighUnit.Sound, WeighUnit.rest, WeighUnit.emptied], by simp [WeighUnit.rest],
      by simp [WeighUnit.rest], by simp [WeighUnit.rest, WeighUnit.emptied, hrequest], hs.zeroForce⟩

theorem State.takeFaultChange_stands {before : Bool} (hs : s.weigh.Stands s.settings zero before phase) :
    (s.takeFaultChange before).weigh.Stands s.settings zero s.scan.fault phase := by
  unfold State.takeFaultChange
  split_ifs with hsame hset
  · exact hsame ▸ hs
  · rw [hset]
    exact State.blockWeigh_stands hs
  · have hclear : s.scan.fault = false := Bool.eq_false_iff.mpr hset
    have hbefore : before = true := by simpa [hclear] using hsame
    rw [hclear]
    exact State.unblockWeigh_stands (hbefore ▸ hs)

/-! ## The phases (R65, R79, R85) -/

/-- Without a tare the phase does not matter. -/
theorem WeighUnit.Stands.of_phase {w : WeighUnit} {c : Settings} (hw : w.Stands c zero fault phase)
    (htare : w.purpose ≠ some .tare) (p : Phase) : w.Stands c zero fault p :=
  ⟨hw.sound, hw.blocked, fun h => absurd h htare, hw.request, hw.zeroForce⟩

/-- A tare runs in EMPTY only. -/
theorem WeighUnit.Stands.no_tare {w : WeighUnit} {c : Settings} (hw : w.Stands c zero fault phase)
    (hphase : phase ≠ .empty) : w.purpose ≠ some .tare := fun h => hphase (hw.tare h)

theorem State.leaveEmpty_stands (hs : s.weigh.Stands s.settings zero false phase) (p : Phase) :
    s.leaveEmpty.weigh.Stands s.settings zero false p := by
  unfold State.leaveEmpty
  split_ifs with htare
  · exact (State.endTare_stands hs htare).of_phase (by simp [State.endTare, WeighUnit.rest]) p
  · exact hs.of_phase htare p

theorem State.armForWeigh_stands (hs : s.weigh.Stands s.settings zero false phase) (hphase : phase ≠ .empty) (p : Phase) :
    s.armForWeigh.weigh.Stands s.settings zero false p := by
  have htare := hs.no_tare hphase
  unfold State.armForWeigh
  split_ifs with hidle
  · have hheld : s.weigh.held = none := by
      have := hs.sound.2
      rw [hidle] at this
      exact this.2
    exact (hs.armed htare hheld _).of_phase (by simp [WeighUnit.rest]) p
  · exact hs.of_phase htare p

theorem WeighUnit.Stands.discarded {w : WeighUnit} {c : Settings} (hw : w.Stands c zero false phase)
    (hphase : phase ≠ .empty) (p : Phase) :
    WeighUnit.Stands c zero false p { w.rest .idle none with held := none } :=
  ⟨by simp [WeighUnit.Sound, WeighUnit.rest], by simp [WeighUnit.rest], by simp [WeighUnit.rest],
    by simpa [WeighUnit.rest, WeighUnit.emptied, hw.request] using hw.no_tare hphase, hw.zeroForce⟩

theorem State.dump_weigh (s : State) : s.dump.weigh = s.discardBucket.weigh := by
  simp [State.dump]

theorem State.abandonCycle_weigh (s : State) : s.abandonCycle.weigh = s.discardBucket.weigh := by
  simp [State.abandonCycle, State.discardBucket]

theorem State.phaseMove_stands (hs : s.weigh.Stands s.settings zero false s.cycle.phase) (boom tilt : Int) (d : Direction) :
    (s.move (phaseMove s.settings s.cycle.phase boom tilt d)).weigh.Stands s.settings zero false
      (s.move (phaseMove s.settings s.cycle.phase boom tilt d)).cycle.phase := by
  rw [State.move_phase]
  cases hphase : s.cycle.phase with
  | empty =>
    unfold phaseMove
    dsimp only
    split_ifs
    · exact State.leaveEmpty_stands (s := s.withPhase .digging) hs _
    · exact hphase ▸ hs
  | digging =>
    have hdigging : s.cycle.phase ≠ .empty := by simp [hphase]
    unfold phaseMove
    dsimp only
    split_ifs
    · exact State.armForWeigh_stands (s := s.withPhase .loaded) hs hdigging _
    · exact hs.of_phase (hs.no_tare hdigging) _
    · exact hphase ▸ hs
  | loaded =>
    have hloaded : s.cycle.phase ≠ .empty := by simp [hphase]
    unfold phaseMove
    dsimp only
    split_ifs
    · rw [State.move, State.dump_weigh]
      exact hs.discarded hloaded _
    · rw [State.move, State.abandonCycle_weigh]
      exact hs.discarded hloaded _
    · exact hphase ▸ hs
  | dumping =>
    have hdumping : s.cycle.phase ≠ .empty := by simp [hphase]
    unfold phaseMove
    dsimp only
    split_ifs
    · rw [State.move, State.endDump_weigh]
      exact hs.of_phase (hs.no_tare hdumping) _
    · exact hphase ▸ hs

theorem State.cycleScan_stands (hs : s.weigh.Stands s.settings zero s.scan.fault s.cycle.phase) (scan : Scan) :
    (s.cycleScan scan).weigh.Stands s.settings zero s.scan.fault (s.cycleScan scan).cycle.phase := by
  cases scan with
  | notUsable => exact hs
  | usable boom tilt d brake load =>
    unfold State.cycleScan
    dsimp only
    split_ifs with hskip
    · exact hs
    · have hclear : s.scan.fault = false := by simp_all
      rw [hclear] at hs ⊢
      exact State.phaseMove_stands hs boom tilt d

/-- A scan handed on keeps the unit standing. -/
theorem State.handOn_stands (hs : s.weigh.Stands s.settings zero s.scan.fault s.cycle.phase) (scan : Scan) :
    (s.handOn scan).weigh.Stands s.settings zero (s.handOn scan).scan.fault (s.handOn scan).cycle.phase := by
  have hchanged := State.takeFaultChange_stands (s := s.judgeScan scan.isUsable) (before := s.scan.fault) hs
  have hmoved := State.cycleScan_stands (s := (s.judgeScan scan.isUsable).takeFaultChange s.scan.fault)
    (by simpa using hchanged) scan
  have hweighed := State.weighScan_stands
    (s := ((s.judgeScan scan.isUsable).takeFaultChange s.scan.fault).cycleScan scan) (by simpa using hmoved) scan
  obtain ⟨_, _, _, hsettled⟩ := s.handOn_settledFrom scan
  rw [hsettled]
  simpa using hweighed

end

/-! ## Every command -/

section
variable {s t : State} {c : Instr}

/-- The weigh unit of a state stands beside its fault and phase. -/
def State.Weighs (s : State) : Prop :=
  s.weigh.Stands s.settings (s.station = .selfTest ∨ s.station.onFace = true) s.scan.fault s.cycle.phase

theorem State.weighs_iff (s : State) : s.Weighs ↔ s.WeighFollows ∧ s.ZeroBelowSpan :=
  ⟨fun ⟨hsound, hblocked, htare, hrequest, hzero⟩ => ⟨⟨hsound, hblocked, htare, hrequest⟩, hzero⟩,
    fun ⟨⟨hsound, hblocked, htare, hrequest⟩, hzero⟩ => ⟨hsound, hblocked, htare, hrequest, hzero⟩⟩

theorem State.Weighs.of_same (hs : s.Weighs) (hweigh : t.weigh = s.weigh) (hsettings : t.settings = s.settings)
    (hstation : t.station = .selfTest ∨ t.station.onFace = true → s.station = .selfTest ∨ s.station.onFace = true)
    (hfault : t.scan.fault = s.scan.fault) (hphase : t.cycle.phase = s.cycle.phase) : t.Weighs := by
  obtain ⟨hsound, hblocked, htare, hrequest, hzero⟩ := hs
  unfold State.Weighs
  rw [hweigh, hsettings, hfault, hphase]
  exact ⟨hsound, hblocked, htare, hrequest, fun h => hzero (hstation h)⟩

theorem settle_weighs (hs : s.Weighs) : s.settle.Weighs :=
  hs.of_same (by simp) (by simp) (by simp) (by simp) (by simp)

theorem handOn_weighs (hs : s.Weighs) (scan : Scan) : (s.handOn scan).Weighs := by
  have h := State.handOn_stands hs scan
  unfold State.Weighs
  simpa using h

/-- The values in use of an image that passes have the zero force below the span force (R176). -/
theorem criticalPasses_zeroForce {m : Image} (h : criticalPasses m = true) :
    (valuesInUse m).zeroForce < (valuesInUse m).spanForce := by
  simp only [criticalPasses, criticalGroups, List.all_cons, Bool.and_eq_true, decide_eq_true_eq] at h
  exact h.2.2.1

theorem handSettings_weigh (s : State) (m : Image) :
    (s.handSettings m).weigh = { s.weigh with zeroForce := (valuesInUse m).zeroForce } ∧
      (s.handSettings m).settings = valuesInUse m := by
  unfold State.handSettings
  dsimp only
  split_ifs <;> simp

theorem validate_weighs (hs : s.Weighs) (m : Image) : (s.validate m).Weighs := by
  unfold State.validate
  split_ifs with hcheck hcritical
  · exact hs.of_same rfl rfl (fun h => by simp [State.enterHalted, StationState.onFace] at h) rfl rfl
  · exact hs.of_same rfl rfl (fun h => by simp [State.enterHalted, StationState.onFace] at h) rfl rfl
  · obtain ⟨hweigh, hsettings⟩ := handSettings_weigh (s.withResult (.valid (takesDefaults m))) m
    obtain ⟨hsound, hblocked, htare, hrequest, -⟩ := hs
    unfold State.Weighs
    rw [State.enterSelfTest_weigh, State.enterSelfTest_settings, hweigh, hsettings]
    exact ⟨hsound, by simpa using hblocked, by simpa using htare, hrequest,
      fun _ => criticalPasses_zeroForce (by simpa using hcritical)⟩

/-- A frame accepted brings no station state in which the zero force counts, beside one in which it counts already. -/
theorem acceptFrame_counts (s : State) (f : List Byte) (h : (s.acceptFrame f).station = .selfTest ∨
    (s.acceptFrame f).station.onFace = true) : s.station = .selfTest ∨ s.station.onFace = true := by
  by_contra hoff
  obtain ⟨htest, hface⟩ := not_or.mp hoff
  have hkept : s.acceptFrame f = s.becomeBusy := (if_neg htest).trans (if_neg hface)
  rw [hkept] at h
  exact hoff h

theorem acceptFrame_weighs (hs : s.Weighs) (f : List Byte) : (s.acceptFrame f).Weighs := by
  refine hs.of_same (by simp) (by simp) (acceptFrame_counts s f) ?_ (by simp)
  obtain hscan | ⟨-, hscan⟩ := s.acceptFrame_scan f <;> rw [hscan]

theorem pressZero_weighs (hs : s.Weighs) : s.pressZero.Weighs := by
  unfold State.pressZero
  split_ifs with htaken
  · obtain ⟨hempty, hidle, -⟩ := htaken
    obtain ⟨hsound, hblocked, htare, hrequest, hzero⟩ := hs
    rw [hidle] at hblocked
    have hheld : s.weigh.held = none := by
      have := hsound.2
      rw [hidle] at this
      exact this.2
    exact ⟨by simp [WeighUnit.Sound, WeighUnit.rest, WeighUnit.emptied, hheld], by simpa [WeighUnit.rest] using hblocked,
      fun _ => hempty, by simp [WeighUnit.rest, State.timer], hzero⟩
  · exact hs

theorem State.pressVoid_phase (s : State) : s.pressVoid.cycle.phase = s.cycle.phase := by
  obtain hcycle | hcycle := s.pressVoid_cycle <;> rw [hcycle]

theorem takePress_weighs (hs : s.Weighs) (k : Key) : (s.takePress k).Weighs := by
  unfold State.takePress
  split_ifs
  · exact hs
  · cases k with
    | zero => exact pressZero_weighs (by exact hs)
    | void =>
      exact hs.of_same (by simp [State.dispatchPress]) (by simp [State.dispatchPress]) (by simp [State.dispatchPress])
        (by simp [State.dispatchPress]) (State.pressVoid_phase _)
    | next | material | ack | shift =>
      exact hs.of_same (by simp [State.dispatchPress]) (by simp [State.dispatchPress]) (by simp [State.dispatchPress])
        (by simp [State.dispatchPress]) (by simp [State.dispatchPress])

/-- The delay timer runs out into CAPTURING with the highest boom angle of the delay (R68). -/
theorem delayEnd_weighs (hs : s.Weighs) (hdue : s.delayTimerDue = true) :
    State.Weighs { s with weigh := { s.weigh with state := .capturing, delayTimer := none } } := by
  have hdelaying : s.weigh.state = .delaying := by simp_all [State.delayTimerDue]
  have hclear := WeighUnit.Stands.no_fault hs (by simp [hdelaying])
  obtain ⟨⟨htare, hsound⟩, -, hphase, hrequest, hzero⟩ := hs
  rw [hdelaying] at hsound
  obtain ⟨hpurpose, -, hboom⟩ := hsound
  exact ⟨⟨htare, hpurpose, hboom⟩, by simp [hclear], hphase, hrequest, hzero⟩

/-- A tare that ends by the request timer (R85). -/
theorem endTare_weighs (hs : s.Weighs) (htare : s.weigh.purpose = some .tare) : (s.endTare .idle).Weighs := by
  have hunblocked : s.weigh.state ≠ .blocked := fun hblocked => by
    have hsound := hs.sound.2
    rw [hblocked] at hsound
    simp_all
  have hclear := WeighUnit.Stands.no_fault hs hunblocked
  unfold State.Weighs at hs ⊢
  rw [hclear] at hs
  have hended := State.endTare_stands hs htare
  simpa [hclear] using hended

theorem Effect.keeps_weighs (h : Effect s c t) (hs : s.Weighs) : t.Weighs := by
  cases h with
  | reset cause _ => exact (State.weighs_iff _).mpr ⟨State.reset_weighFollows,
      fun h => by simp [State.held, State.reset, StationState.onFace] at h⟩
  | release hreset =>
    exact settle_weighs (hs.of_same rfl rfl (fun h => by simp [State.released, StationState.onFace] at h) rfl rfl)
  | image m _ _ => exact settle_weighs (validate_weighs (by exact hs) m)
  | readEnd _ =>
    exact settle_weighs (hs.of_same rfl rfl (fun h => by simp [State.enterHalted, StationState.onFace] at h) rfl rfl)
  | selfTestEnd _ =>
    exact settle_weighs (hs.of_same rfl rfl (fun h => by simp [State.enterHalted, StationState.onFace] at h) rfl rfl)
  | joined hdue =>
    have hlisten : s.station = .listen := by simp_all [State.joinTimerDue]
    exact settle_weighs (hs.of_same rfl rfl (fun _ => .inr (by rw [hlisten]; rfl)) rfl rfl)
  | skipped f _ _ => exact handOn_weighs (by exact hs) _
  | scanEnd f _ _ => exact handOn_weighs (by exact hs) _
  | timeout f _ _ => exact handOn_weighs (by exact hs) _
  | delayEnd hdue => exact delayEnd_weighs hs hdue
  | tareEnd _ htare => exact settle_weighs (endTare_weighs hs htare)
  | tareGone _ htare =>
    obtain ⟨hsound, hblocked, hphase, hrequest, hzero⟩ := hs
    exact ⟨hsound, hblocked, hphase, by simpa using htare, hzero⟩
  | frameTaken x rest f _ _ _ => exact acceptFrame_weighs (by exact hs) f
  | press k _ _ => exact settle_weighs (takePress_weighs (by exact hs) k)
  | shift _ => exact settle_weighs hs
  | _ => exact hs.of_same (by simp) (by simp) (by simp) (by simp) (by simp)

end

/-- Settles O57: every operation leaves the unit standing as the table of chapter 4.1 gives. -/
theorem stepKeepsTheWeighUnit : Obligations.StepKeepsTheWeighUnit := by
  intro s t hfollows hzero hstep
  exact t.weighs_iff.mp (step_keeps (P := State.Weighs) (fun _ _ _ h => h.keeps_weighs) (fun _ _ _ h => h)
    (fun _ _ h => h) (s.weighs_iff.mpr ⟨hfollows, hzero⟩) hstep)

end Sys2Proof.Machine
end


section
/-! What the operations leave of the alerts: the conditions of the state alerts but OVERLOAD, the latches of the event
alerts, and OVERLOAD evaluated again behind every change it depends on (R41, R166, R167). -/

namespace Sys2Proof.Machine

/-! ## The two relations -/

/-- t comes from s with no state alert but OVERLOAD reported and no event alert cleared. -/
structure State.Alerted (s t : State) : Prop where
  condition : ∀ k, k ≠ .overload → (t.panel.alerts.stateLatch k).condition = (s.panel.alerts.stateLatch k).condition
  latched : ∀ a, (s.panel.alerts.eventLatch a).latched = true → (t.panel.alerts.eventLatch a).latched = true

/-- t comes from s in that way, with the OVERLOAD condition as it was or evaluated again. -/
structure State.Reports (s t : State) : Prop where
  alerted : s.Alerted t
  overload : s.OverloadReported → t.OverloadReported

section
variable {s t u : State}

theorem State.Alerted.of_alerts (h : t.panel.alerts = s.panel.alerts) : s.Alerted t :=
  ⟨fun _ _ => by rw [h], fun _ ha => by rwa [h]⟩

theorem State.Alerted.trans (hst : s.Alerted t) (htu : t.Alerted u) : s.Alerted u :=
  ⟨fun k hk => (htu.condition k hk).trans (hst.condition k hk), fun a ha => htu.latched a (hst.latched a ha)⟩

theorem State.Reports.trans (hst : s.Reports t) (htu : t.Reports u) : s.Reports u :=
  ⟨hst.alerted.trans htu.alerted, fun h => htu.overload (hst.overload h)⟩

theorem State.overload_of_same (htrucks : t.trucks = s.trucks) (hsettings : t.settings = s.settings)
    (hrecords : t.tally.records = s.tally.records) : t.overload = s.overload := by
  unfold State.overload LoadTally.loadRecords
  rw [htrucks, hsettings, hrecords]

theorem State.Reports.of_same (halerts : t.panel.alerts = s.panel.alerts) (htrucks : t.trucks = s.trucks)
    (hsettings : t.settings = s.settings) (hrecords : t.tally.records = s.tally.records) : s.Reports t :=
  ⟨.of_alerts halerts, fun h => by
    rw [State.OverloadReported, halerts, State.overload_of_same htrucks hsettings hrecords]
    exact h⟩

theorem CabPanel.report_condition (p : CabPanel) (k : StateAlert) (holds : Bool) :
    ((p.report k holds).alerts.stateLatch k).condition = holds := by
  simp [CabPanel.report]

theorem CabPanel.report_other (p : CabPanel) {k j : StateAlert} (holds : Bool) (h : j ≠ k) :
    (p.report k holds).alerts.stateLatch j = p.alerts.stateLatch j :=
  p.alerts.stateLatch_setState_other k j _ h

theorem State.evalOverload_reported (s : State) : s.evalOverload.OverloadReported :=
  s.panel.report_condition .overload s.overload

theorem State.evalOverload_alerted (s : State) : s.Alerted s.evalOverload :=
  ⟨fun k hk => congrArg StateLatch.condition (s.panel.report_other s.overload hk), fun a ha => by simpa using ha⟩

/-- The OVERLOAD condition evaluated behind a change. -/
theorem State.Alerted.evalOverload (h : s.Alerted t) : s.Reports t.evalOverload :=
  ⟨h.trans t.evalOverload_alerted, fun _ => t.evalOverload_reported⟩

theorem CabPanel.raise_latched (p : CabPanel) (k a : EventAlert) (ha : (p.alerts.eventLatch a).latched = true) :
    ((p.raise k).alerts.eventLatch a).latched = true := by
  by_cases hk : a = k
  · subst hk
    simp [CabPanel.raise, EventLatch.raise]
  · rwa [p.raise_eventLatch_other hk]

theorem State.raise_reports (s : State) (k : EventAlert) : s.Reports (s.raise k) :=
  ⟨⟨fun j _ => by simp [State.raise, CabPanel.raise], fun a ha => s.panel.raise_latched k a ha⟩,
    fun h => by
      rw [State.OverloadReported]
      have hkept := Alerts.stateLatch_setEvent s.panel.alerts k .overload
      exact (congrArg StateLatch.condition (hkept _)).trans h⟩

end

section
variable (s : State)

theorem State.handWhere_reports (handed : Nat → Bool) : s.Reports (s.handWhere handed) :=
  .of_same (by simp) (by simp) (by simp) (by simp)

theorem State.settle_reports : s.Reports s.settle := .of_same (by simp) (by simp) (by simp) (by simp)

/-! ## The tally -/

theorem State.creditOwn_reports (m : Option Nat) (records : List Contribution) (r : Contribution) :
    s.Reports (s.creditOwn m records r) :=
  State.Alerted.evalOverload (.of_alerts (by simp))

theorem State.credit_reports (m : Option Nat) (load : Option Load) : s.Reports (s.credit m load).1 := by
  have pile : s.Reports (s.creditPile m) := .of_same rfl rfl rfl rfl
  have refused : s.Reports (s.refuseCredit m) := pile.trans (State.raise_reports _ _)
  unfold State.credit
  split
  · exact pile
  · split
    · exact pile
    · split
      · exact pile
      · split <;> split
        · exact refused
        · exact s.creditOwn_reports m _ _
        · exact refused
        · exact s.creditOwn_reports m _ _

theorem State.voidClaim_reports (m : Option Nat) (load : Option Load) : s.Reports (s.voidClaim m load).1 := by
  cases load with
  | none => exact .of_same rfl rfl rfl rfl
  | some l =>
    obtain ⟨_, r, -, -, -, -, hclaim⟩ | ⟨-, hclaim⟩ := s.voidClaim_cases m l <;> rw [hclaim]
    · exact State.Alerted.evalOverload (.of_alerts (by simp))
    · exact .of_same rfl rfl rfl rfl

theorem TruckTable.find_update (t : TruckTable) (n m : Nat) {f : TruckEntry → TruckEntry}
    (hf : ∀ e, (f e).truck = e.truck) :
    (t.update n f).find m = (t.find m).map fun e => if e.truck = n then f e else e := by
  unfold TruckTable.find TruckTable.update
  rw [List.find?_map]
  congr 2
  funext e
  simp only [Function.comp]
  split_ifs <;> simp [hf]

/-- OVERLOAD reads of an entry its load and its target. -/
theorem State.overload_update (n : Nat) {f : TruckEntry → TruckEntry}
    (hf : ∀ e, (f e).truck = e.truck ∧ (f e).epoch = e.epoch ∧ (f e).target = e.target) :
    State.overload { s with trucks := s.trucks.update n f } = s.overload := by
  have hentry : (s.trucks.update n f).receivingEntry =
      s.trucks.receivingEntry.map fun e => if e.truck = n then f e else e := by
    rw [TruckTable.receivingEntry_eq, TruckTable.receivingEntry_eq]
    cases hfirst : s.trucks.pin.or s.trucks.queue.head? with
    | none => simp [hfirst]
    | some m => simp [hfirst, s.trucks.find_update n m fun e => (hf e).1]
  unfold State.overload
  rw [hentry]
  cases s.trucks.receivingEntry with
  | none => rfl
  | some e =>
    obtain ⟨htruck, hepoch, htarget⟩ := hf e
    dsimp only [Option.map_some]
    split_ifs <;> simp only [htruck, hepoch, htarget]

theorem State.markDropped_reports (n : Nat) : s.Reports (s.markDropped n) :=
  ⟨.of_alerts rfl, fun h => h.trans
    (s.overload_update n (f := fun e => { e with peerDropped := true }) fun _ => ⟨rfl, rfl, rfl⟩).symm⟩

theorem State.mergePeer_reports (i : Item) : s.Reports (s.mergePeer i) := by
  unfold State.mergePeer
  split <;> split_ifs
  · exact State.Alerted.evalOverload (.of_alerts rfl)
  · exact .of_same rfl rfl rfl rfl
  · exact s.markDropped_reports _
  · exact State.Alerted.evalOverload (.of_alerts rfl)

theorem State.adopt_reports (i : Item) : s.Reports (s.adopt i) := by
  unfold State.adopt
  split <;> split_ifs
  · exact State.Alerted.evalOverload (.of_alerts (by simp [State.withRecords]))
  · exact .of_same rfl rfl rfl rfl
  · exact (s.markDropped_reports _).trans (State.raise_reports _ _)
  · exact State.Alerted.evalOverload (.of_alerts (by simp [State.withRecords]))

theorem State.mergeItem_reports (i : Item) : s.Reports (s.mergeItem i) := by
  have kept : s.Reports s := .of_same rfl rfl rfl rfl
  unfold State.mergeItem
  split
  · split
    · exact kept
    · split_ifs
      · exact kept
      · exact s.adopt_reports i
      · exact s.mergePeer_reports i
  · exact kept

theorem State.mergeItems_reports (is : List Item) : s.Reports (s.mergeItems is) := by
  unfold State.mergeItems
  induction is generalizing s with
  | nil => exact .of_same rfl rfl rfl rfl
  | cons i is ih =>
    exact ((s.mergeItem_reports i).trans (State.handWhere_reports _ _)).trans (ih (s.takeItem i))

theorem State.closeLoad_reports (e : TruckEntry) (reason : CloseReason) : s.Reports (s.closeLoad e reason) :=
  have closed : s.Reports (State.evalOverload { s with tally := s.closedTally e reason })  :=
    State.Alerted.evalOverload (.of_alerts rfl)
  closed.trans (State.handWhere_reports _ _)

/-! ## The truck table -/

theorem State.spotChange_alerted (n : Nat) (wasHere waiting isHere : Bool) :
    s.Alerted (s.spotChange n wasHere waiting isHere) := by
  have kept : s.Alerted s := .of_alerts rfl
  unfold State.spotChange
  dsimp only
  split_ifs
  case pos => exact .of_alerts rfl
  case neg => exact kept
  case pos => exact .of_alerts rfl
  case neg =>
    have marked : s.Alerted { s with trucks := s.trucks.markWaiting n true } := .of_alerts rfl
    exact marked.trans (State.raise_reports _ _).alerted
  case pos => exact .of_alerts rfl
  case neg => exact .of_alerts rfl
  case neg => exact kept

theorem State.refreshEntry_reports (e : TruckEntry) (b : TruckBeacon) : s.Reports (s.refreshEntry e b) := by
  have closed : s.Reports (if decide (b.epoch ≠ e.epoch) then s.closeLoad e .newLoad else s) := by
    split_ifs
    · exact s.closeLoad_reports e .newLoad
    · exact .of_same rfl rfl rfl rfl
  have updated (u : State) (trucks : TruckTable) : u.Alerted { u with trucks := trucks } := .of_alerts rfl
  exact (State.Alerted.evalOverload (closed.alerted.trans ((updated _ _).trans
    (State.spotChange_alerted _ _ _ _ _)))).trans (State.handWhere_reports _ _)

theorem State.createEntry_reports (b : TruckBeacon) : s.Reports (s.createEntry b) := by
  have added : s.Alerted { s with trucks := { s.trucks with
      entries := s.trucks.entries ++ [b.newEntry s.settings.station s.partTime] } } := .of_alerts rfl
  exact (State.Alerted.evalOverload (added.trans (State.spotChange_alerted _ _ _ _ _))).trans
    (State.handWhere_reports _ _)

/-- A newcomer's entry in the place of an evicted one: OVERLOAD is evaluated behind both. -/
theorem State.evict_reports (old : TruckEntry) (b : TruckBeacon) : s.Reports (State.createEntry
    { s.closeLoad old .evicted with trucks := (s.closeLoad old .evicted).trucks.remove old.truck } b) := by
  have removed := (s.closeLoad_reports old .evicted).alerted.trans
    (u := { s.closeLoad old .evicted with trucks := (s.closeLoad old .evicted).trucks.remove old.truck }) (.of_alerts rfl)
  have added (u : State) : u.Alerted { u with trucks := { u.trucks with
      entries := u.trucks.entries ++ [b.newEntry u.settings.station u.partTime] } } := .of_alerts rfl
  exact (State.Alerted.evalOverload (removed.trans ((added _).trans (State.spotChange_alerted _ _ _ _ _)))).trans
    (State.handWhere_reports _ _)

theorem State.takeTruckBeacon_reports (b : TruckBeacon) : s.Reports (s.takeTruckBeacon b) := by
  unfold State.takeTruckBeacon
  split
  · split
    · exact (s.refreshEntry_reports _ b).trans (State.mergeItems_reports _ _)
    · split
      · exact (s.createEntry_reports b).trans (State.mergeItems_reports _ _)
      · split
        · exact s.raise_reports _
        next old _ => exact (s.evict_reports old b).trans (State.mergeItems_reports _ _)
  · exact .of_same rfl rfl rfl rfl

theorem State.truckLost_reports (n : Nat) : s.Reports (s.truckLost n) :=
  State.Alerted.evalOverload (.of_alerts rfl)

theorem State.truckRemoved_reports (e : TruckEntry) : s.Reports (s.truckRemoved e) :=
  State.Alerted.evalOverload ((s.closeLoad_reports e .lost).alerted.trans (.of_alerts rfl))

/-! ## Frames of other stations -/

theorem State.rosterPart_reports (n : Nat) (p : PartFacts) : s.Reports (s.rosterPart n p) := by
  unfold State.rosterPart
  split_ifs <;> exact .of_same rfl rfl rfl rfl

theorem State.rosterNotice_reports (n : Nat) : s.Reports (s.rosterNotice n) := by
  unfold State.rosterNotice
  split_ifs <;> exact .of_same rfl rfl rfl rfl

theorem State.dispatch_reports {f : List Byte} (hother : frameSender f ≠ s.settings.station) :
    s.Reports (s.dispatch f) := by
  unfold State.dispatch
  rw [if_neg hother]
  split_ifs
  · exact s.takeTruckBeacon_reports _
  · exact (s.rosterPart_reports _ _).trans ((State.handWhere_reports _ _).trans (State.mergeItems_reports _ _))
  · exact (s.rosterNotice_reports _).trans ((State.handWhere_reports _ _).trans (State.mergeItems_reports _ _))

/-! ## The scan's blocks -/

theorem State.endTare_reports (w : WeighState) : s.Reports (s.endTare w) :=
  have rested : s.Reports { s with weigh := { s.weigh.rest w none with tareRequest := none } } := .of_same rfl rfl rfl rfl
  rested.trans (State.raise_reports _ _)

theorem State.withWeigh_reports (w : WeighUnit) : s.Reports { s with weigh := w } := .of_same rfl rfl rfl rfl

theorem State.blockWeigh_reports : s.Reports s.blockWeigh := by
  unfold State.blockWeigh
  split_ifs
  · exact s.endTare_reports _
  · exact s.withWeigh_reports _

theorem State.unblockWeigh_reports : s.Reports s.unblockWeigh := by
  unfold State.unblockWeigh
  split_ifs <;> exact .of_same rfl rfl rfl rfl

theorem State.takeFaultChange_reports (before : Bool) : s.Reports (s.takeFaultChange before) := by
  unfold State.takeFaultChange
  split_ifs
  · exact .of_same rfl rfl rfl rfl
  · exact s.blockWeigh_reports
  · exact s.unblockWeigh_reports

theorem State.abortCapture_reports : s.Reports s.abortCapture := by
  unfold State.abortCapture
  split_ifs
  · exact s.endTare_reports _
  all_goals exact .of_same rfl rfl rfl rfl

theorem State.completeCapture_reports : s.Reports s.completeCapture := by
  unfold State.completeCapture State.completeTare
  dsimp only
  split_ifs
  · exact s.endTare_reports _
  · exact s.withWeigh_reports _
  · exact s.endTare_reports _
  · exact s.withWeigh_reports _

theorem State.scanInCapture_reports (boom : Int) (load : Option LoadReading) :
    s.Reports (s.scanInCapture boom load) := by
  unfold State.scanInCapture
  split
  · exact s.abortCapture_reports
  · have raised := s.withWeigh_reports (s.weigh.raiseHighest boom)
    dsimp only
    split_ifs
    · exact raised.trans (State.abortCapture_reports _)
    · exact raised.trans (State.completeCapture_reports _)
    · exact s.withWeigh_reports _

theorem State.crossing_reports (boom : Int) (load : Option LoadReading) : s.Reports (s.crossing boom load) := by
  have started := s.withWeigh_reports (s.weigh.startCapture s.partTime s.settings.captureDelay boom)
  unfold State.crossing
  dsimp only
  split_ifs
  · exact started.trans (State.scanInCapture_reports _ boom load)
  · exact started

theorem State.usableScan_reports (boom : Int) (load : Option LoadReading) : s.Reports (s.usableScan boom load) := by
  have kept : s.Reports s := .of_same rfl rfl rfl rfl
  unfold State.usableScan
  dsimp only
  split
  case h_1 | h_2 => exact kept
  case h_3 | h_4 =>
    split_ifs
    · exact s.crossing_reports boom load
    · exact kept
  case h_5 =>
    have raised := s.withWeigh_reports (s.weigh.raiseHighest boom)
    unfold State.scanInDelay
    dsimp only
    split_ifs
    · exact raised.trans (State.abortCapture_reports _)
    · exact raised
  case h_6 => exact s.scanInCapture_reports boom load

theorem State.weighScan_reports (scan : Scan) : s.Reports (s.weighScan scan) := by
  cases scan with
  | notUsable =>
    unfold State.weighScan
    dsimp only
    split_ifs
    · exact s.abortCapture_reports
    · exact .of_same rfl rfl rfl rfl
  | usable boom tilt d brake load => exact (s.usableScan_reports boom load).trans (State.withWeigh_reports _ _)

theorem State.raiseUnweighed_reports (m : Option Nat) : s.Reports (s.raiseUnweighed m) := by
  unfold State.raiseUnweighed
  split_ifs
  · exact s.raise_reports _
  · exact .of_same rfl rfl rfl rfl

theorem State.withCycle_reports (cycle : CycleTracker) : s.Reports { s with cycle := cycle } := .of_same rfl rfl rfl rfl

theorem State.dump_reports : s.Reports s.dump := by
  have discarded : s.Reports s.discardBucket := s.withWeigh_reports _
  exact discarded.trans ((State.credit_reports _ _ _).trans ((State.handWhere_reports _ _).trans
    ((State.withCycle_reports _ _).trans ((State.raiseUnweighed_reports _ _).trans (State.handWhere_reports _ _)))))

theorem State.abandonCycle_reports : s.Reports s.abandonCycle :=
  (s.withCycle_reports _).trans ((State.handWhere_reports _ _).trans (State.withWeigh_reports _ _))

theorem State.move_reports (m : Move) : s.Reports (s.move m) := by
  have phased (p : Phase) : s.Reports (s.withPhase p) := s.withCycle_reports _
  cases m with
  | stay => exact .of_same rfl rfl rfl rfl
  | dig =>
    unfold State.move State.leaveEmpty
    split_ifs
    · exact (phased _).trans (State.endTare_reports _ _)
    · exact phased _
  | load =>
    unfold State.move State.armForWeigh
    split_ifs
    · exact (phased _).trans (State.withWeigh_reports _ _)
    · exact phased _
  | flatDig => exact phased _
  | dump => exact s.dump_reports
  | abandon => exact s.abandonCycle_reports
  | dumpEnd =>
    unfold State.move State.endDump
    dsimp only
    split_ifs
    · exact s.withCycle_reports _
    · exact phased _

theorem State.cycleScan_reports (scan : Scan) : s.Reports (s.cycleScan scan) := by
  cases scan with
  | notUsable => exact .of_same rfl rfl rfl rfl
  | usable boom tilt direction brake load =>
    unfold State.cycleScan
    dsimp only
    split_ifs
    · exact .of_same rfl rfl rfl rfl
    · exact s.move_reports _

/-- Behind its report of SENSOR, a scan handed on reports no other condition but OVERLOAD. -/
theorem State.handOn_reports (scan : Scan) : (s.judgeScan scan.isUsable).Reports (s.handOn scan) :=
  (State.handWhere_reports _ _).trans ((State.takeFaultChange_reports _ _).trans
    ((State.handWhere_reports _ _).trans ((State.cycleScan_reports _ scan).trans ((State.handWhere_reports _ _).trans
      ((State.weighScan_reports _ scan).trans (State.settle_reports _))))))

/-! ## Keys -/

theorem State.pressVoid_reports : s.Reports s.pressVoid := by
  have kept : s.Reports s := .of_same rfl rfl rfl rfl
  unfold State.pressVoid
  split
  · exact kept
  next p _ =>
    split_ifs
    · split
      · exact kept
      next taken hclaim =>
        have claimed : s.Reports taken := by
          have := s.voidClaim_reports p.mass p.load
          rwa [hclaim] at this
        exact claimed.trans ((State.handWhere_reports _ _).trans (State.withCycle_reports _ _))
    · exact kept

theorem State.pressNext_reports : s.Reports s.pressNext := by
  unfold State.pressNext
  split
  · exact .of_same rfl rfl rfl rfl
  · exact State.Alerted.evalOverload (.of_alerts rfl)

/-- The freeze marks are the event alerts' own. -/
theorem CabPanel.takeFreeze_latches (p : CabPanel) (k : StateAlert) (a : EventAlert) :
    p.takeFreeze.alerts.stateLatch k = p.alerts.stateLatch k ∧
      (p.takeFreeze.alerts.eventLatch a).latched = (p.alerts.eventLatch a).latched :=
  ⟨by cases k <;> rfl, by cases a <;> rfl⟩

theorem State.takeFreeze_reports : s.Reports { s with panel := s.panel.takeFreeze } :=
  ⟨⟨fun k _ => congrArg StateLatch.condition (s.panel.takeFreeze_latches k .table).1, fun a ha =>
      (s.panel.takeFreeze_latches .overload a).2.trans ha⟩,
    fun h => h⟩

theorem State.dispatchPress_reports (k : Key) : s.Reports (s.dispatchPress k) := by
  cases k with
  | zero =>
    unfold State.dispatchPress State.pressZero
    dsimp only
    split_ifs
    · exact s.withWeigh_reports _
    · exact s.raise_reports _
  | void => exact s.pressVoid_reports
  | next => exact s.pressNext_reports
  | material =>
    have turned (i : Nat) : s.Reports { s with panel := { s.panel with material := i } } := .of_same rfl rfl rfl rfl
    exact (turned _).trans (State.handWhere_reports _ _)
  | ack => exact s.takeFreeze_reports
  | shift => exact .of_same rfl rfl rfl rfl

theorem State.takePress_reports (k : Key) : s.Reports (s.takePress k) := by
  have keyed (state : KeyState) : s.Reports (s.setKey k state) := .of_same rfl rfl rfl rfl
  unfold State.takePress
  split_ifs
  · exact keyed _
  · exact (keyed _).trans (State.dispatchPress_reports _ k)

/-- A release of ACK clears no condition. -/
theorem StateLatch.release_condition (l : StateLatch) : l.release.condition = l.condition := by
  unfold StateLatch.release
  split_ifs with h
  · rfl
  · simpa using h

theorem Alerts.release_condition (a : Alerts) (f : Frozen) (k : StateAlert) :
    ((a.release f).stateLatch k).condition = (a.stateLatch k).condition := by
  cases f with
  | noneShown => rfl
  | shown x =>
    cases x with
    | event j => simp [Alerts.release]
    | state j =>
      by_cases hk : k = j
      · subst hk
        simp [Alerts.release, StateLatch.release_condition]
      · simp [Alerts.release, Alerts.stateLatch_setState_other _ _ _ _ hk]

theorem CabPanel.releaseAck_condition (p : CabPanel) (k : StateAlert) :
    (p.releaseAck.alerts.stateLatch k).condition = (p.alerts.stateLatch k).condition := by
  unfold CabPanel.releaseAck
  split
  · rfl
  next f _ => exact p.alerts.release_condition f k

end

end Sys2Proof.Machine
end


section
/-! The conditions that are reported follow what they tell of, through every step (R41, R117, R133, R167, R176). -/

namespace Sys2Proof.Machine

/-- Every condition reported is the condition. -/
def State.Reported (s : State) : Prop := s.ConditionsReported ∧ s.OverloadReported

section
variable {s t : State} {c : Instr}

/-! ## Changes that report nothing but OVERLOAD -/

/-- A change of the station state between states alike for CONFLICT and for the configuration. -/
theorem State.Reported.moved (hs : s.Reported)
    (hkept : ∀ k, k ≠ .overload → (t.panel.alerts.stateLatch k).condition = (s.panel.alerts.stateLatch k).condition)
    (hoverload : s.OverloadReported → t.OverloadReported) (hfault : t.scan.fault = s.scan.fault)
    (hchannel : t.channel.condition = s.channel.condition) (hresult : t.startup.result = s.startup.result)
    (hsilent : t.station = .silent ↔ s.station = .silent)
    (hearly : t.station = .reset ∨ t.station = .configRead → s.station = .reset ∨ s.station = .configRead) :
    t.Reported := by
  obtain ⟨⟨hsensor, hchan, hconflict, hconfig, hnotRead⟩, hload⟩ := hs
  refine ⟨⟨?_, ?_, ?_, ?_, fun hstation => hresult.trans (hnotRead (hearly hstation))⟩, hoverload hload⟩
  · exact (hkept .sensor (by decide)).trans (hsensor.trans hfault.symm)
  · exact (hkept .channel (by decide)).trans (hchan.trans hchannel.symm)
  · rw [hsilent, ← hconflict]
    exact Bool.eq_iff_iff.mp (hkept .conflict (by decide))
  · rw [hresult, ← hconfig]
    exact Bool.eq_iff_iff.mp (hkept .config (by decide))

theorem State.Reported.of_reports (hs : s.Reported) (h : s.Reports t) (hfault : t.scan.fault = s.scan.fault)
    (hchannel : t.channel.condition = s.channel.condition) (hstation : t.station = s.station)
    (hresult : t.startup.result = s.startup.result) : t.Reported :=
  hs.moved h.alerted.condition h.overload hfault hchannel hresult (by rw [hstation]) (by rw [hstation]; exact id)

theorem State.Reported.settle (hs : s.Reported) : s.settle.Reported :=
  hs.of_reports s.settle_reports (by simp) (by simp [ChannelAccess.condition]) (by simp) (by simp)

theorem State.Reported.startTransfer (hs : s.Reported) : s.startTransfer.Reported :=
  hs.of_reports (.of_same (by simp) (by simp) (by simp) (by simp)) (by simp) (by simp) (by simp) (by simp)

theorem State.Follows.condition (h : s.Follows t) : t.channel.condition = s.channel.condition := by
  obtain ⟨-, -, ns, hchannel, -⟩ := h
  rw [hchannel, ChannelAccess.queueNotices_eq]
  rfl

/-- An operation of the face: texts handed, notices queued, and OVERLOAD reported. -/
theorem State.Reported.of_follows (hs : s.Reported) (h : s.Reports t) (hfollows : s.Follows t)
    (hfault : t.scan.fault = s.scan.fault) (hresult : t.startup.result = s.startup.result) : t.Reported :=
  hs.of_reports h hfault hfollows.condition hfollows.station hresult

/-! ## Reports of the other conditions -/

theorem CabPanel.report_condition_other (p : CabPanel) {k j : StateAlert} (holds : Bool) (h : j ≠ k) :
    ((p.report k holds).alerts.stateLatch j).condition = (p.alerts.stateLatch j).condition :=
  congrArg StateLatch.condition (p.report_other holds h)

theorem State.report_overloadReported {k : StateAlert} (hk : k ≠ .overload) (holds : Bool) (hs : s.OverloadReported) :
    (s.report k holds).OverloadReported :=
  (s.panel.report_condition_other holds hk.symm).trans hs

/-- The CHANNEL condition reported behind a change of channel access. -/
theorem State.Reported.reportChannel (hs : s.Reported) (pins : Pins) (link : LinkPort) (channel : ChannelAccess) :
    (State.reportChannel { s with pins := pins, link := link, channel := channel }).Reported := by
  obtain ⟨⟨hsensor, -, hconflict, hconfig, hnotRead⟩, hload⟩ := hs
  have other {j : StateAlert} (hj : j ≠ .channel) := s.panel.report_condition_other channel.condition hj
  refine ⟨⟨?_, s.panel.report_condition .channel channel.condition, ?_, ?_, hnotRead⟩, ?_⟩
  · exact (other (j := .sensor) (by decide)).trans hsensor
  · exact (Bool.eq_iff_iff.mp (other (j := .conflict) (by decide))).trans hconflict
  · exact (Bool.eq_iff_iff.mp (other (j := .config) (by decide))).trans hconfig
  · exact State.report_overloadReported (s := { s with pins := pins, link := link, channel := channel }) (by decide) _ hload

theorem State.Reported.judgeScan (hs : s.Reported) (usable : Bool) : (s.judgeScan usable).Reported := by
  obtain ⟨⟨-, hchannel, hconflict, hconfig, hnotRead⟩, hload⟩ := hs
  have other {j : StateAlert} (hj : j ≠ .sensor) := s.panel.report_condition_other (s.scan.count usable).judge.fault hj
  refine ⟨⟨s.panel.report_condition .sensor _, ?_, ?_, ?_, hnotRead⟩, ?_⟩
  · exact (other (j := .channel) (by decide)).trans hchannel
  · exact (Bool.eq_iff_iff.mp (other (j := .conflict) (by decide))).trans hconflict
  · exact (Bool.eq_iff_iff.mp (other (j := .config) (by decide))).trans hconfig
  · exact State.report_overloadReported (s := { s with scan := (s.scan.count usable).judge }) (by decide) _ hload

theorem State.Reported.handOn (hs : s.Reported) (scan : Scan) : (s.handOn scan).Reported := by
  obtain ⟨u, hsettle, hfollows⟩ := s.handOn_eq_settle scan
  have hcondition : (s.handOn scan).channel.condition = s.channel.condition := by
    rw [hsettle, ← hfollows.condition]
    simp [ChannelAccess.condition]
  exact (hs.judgeScan scan.isUsable).of_reports (s.handOn_reports scan) (by simp) hcondition (by simp) (by simp)

/-- CONFLICT arises with SILENT, and LISTEN and ACTIVE are left for it only. -/
theorem State.Reported.silenced (hs : s.Reported) (startup : Startup) (channel : ChannelAccess)
    (hresult : startup.result = s.startup.result) (hchannel : channel.condition = s.channel.condition) :
    (State.report { s with station := .silent, startup := startup, channel := channel } .conflict true).Reported := by
  obtain ⟨⟨hsensor, hchan, -, hconfig, -⟩, hload⟩ := hs
  have other {j : StateAlert} (hj : j ≠ .conflict) := s.panel.report_condition_other true hj
  refine ⟨⟨?_, ?_, ?_, ?_, fun h => ?_⟩, ?_⟩
  · exact (other (j := .sensor) (by decide)).trans hsensor
  · exact (other (j := .channel) (by decide)).trans (hchan.trans hchannel.symm)
  · exact iff_of_true (s.panel.report_condition .conflict true) rfl
  · exact (Bool.eq_iff_iff.mp (other (j := .config) (by decide))).trans (hconfig.trans (by rw [← hresult]; rfl))
  · exact h.elim (fun h => by cases h) (fun h => by cases h)
  · exact State.report_overloadReported (s := { s with station := .silent, startup := startup, channel := channel })
      (by decide) _ hload

theorem State.Reported.takeConflict (hs : s.Reported) : s.takeConflict.Reported := by
  unfold State.takeConflict
  split
  case h_1 => exact hs.silenced { s.startup with joinTimer := none } s.channel rfl rfl
  case h_2 => exact hs.silenced s.startup s.channel.leaveActive rfl rfl
  all_goals exact hs

/-! ## The station states -/

theorem State.Reported.enterHalted (hs : s.Reported) (hsilent : s.station ≠ .silent) (reason : HaltReason) :
    (s.enterHalted reason).Reported :=
  hs.moved (fun _ _ => rfl) (fun h => h) rfl rfl rfl (iff_of_false (fun h => by cases h) hsilent)
    (fun h => h.elim (fun h => by cases h) (fun h => by cases h))

theorem State.Reported.enterListen (hs : s.Reported) (hself : s.station = .selfTest) : s.enterListen.Reported := by
  have hsilent : (StationState.listen = .silent) ↔ s.station = .silent := by simp [hself]
  unfold State.enterListen
  dsimp only
  split_ifs
  · exact hs.moved (fun _ _ => rfl) (fun h => h) rfl rfl rfl hsilent
      (fun h => h.elim (fun h => by cases h) (fun h => by cases h))
  · exact hs.moved (fun _ _ => rfl) (fun h => h) rfl rfl rfl hsilent
      (fun h => h.elim (fun h => by cases h) (fun h => by cases h))

theorem State.Reported.compareTestFrame (hs : s.Reported) (hself : s.station = .selfTest) (f : List Byte) :
    (s.compareTestFrame f).Reported := by
  unfold State.compareTestFrame
  split_ifs
  · exact hs.enterListen hself
  · exact hs
  · exact hs.enterHalted (by simp [hself]) _

theorem State.dispatch_startup {f : List Byte} (hother : frameSender f ≠ s.settings.station) :
    (s.dispatch f).startup = s.startup := by
  unfold State.dispatch
  rw [if_neg hother]
  split_ifs <;> simp

theorem State.Reported.acceptFrame (hs : s.Reported) (f : List Byte) : (s.acceptFrame f).Reported := by
  have hbusy : s.becomeBusy.Reported := hs
  unfold State.acceptFrame
  dsimp only
  split_ifs with hself
  · exact (hbusy.compareTestFrame hself f).settle
  · by_cases hother : frameSender f = s.becomeBusy.settings.station
    · rw [State.dispatch, if_pos hother]
      exact hbusy.takeConflict.settle
    · refine (hbusy.of_follows (State.dispatch_reports _ hother) (State.dispatch_follows _ hother) ?_ ?_).settle
      · simp
      · rw [State.dispatch_startup hother]
  · exact hbusy

theorem State.overload_of_empty (hqueue : s.trucks.queue = []) (hpin : s.trucks.pin = none) : s.overload = false := by
  simp [State.overload, TruckTable.receivingEntry_eq, hqueue, hpin]

/-- The settings handed over report CONFIG, with built-in values in use only. -/
theorem State.handSettings_condition (m : Image) (k : StateAlert) :
    ((s.handSettings m).panel.alerts.stateLatch k).condition =
      if k = .config ∧ takesDefaults m = true then true else (s.panel.alerts.stateLatch k).condition := by
  unfold State.handSettings
  dsimp only
  by_cases hdefaults : takesDefaults m = true
  · by_cases hk : k = .config
    · subst hk
      simp [hdefaults, State.report, CabPanel.report_condition]
    · simp [hdefaults, hk, State.report, CabPanel.report_condition_other _ _ hk]
  · simp [hdefaults]

/-- In CONFIG_READ nothing is read, CONFIG is clear, and without trucks OVERLOAD is clear for any settings (R176). -/
theorem State.Reported.validate (hs : s.Reported) (hread : s.station = .configRead) (hempty : s.EmptyOffFace) (m : Image) :
    (s.validate m).Reported := by
  obtain ⟨⟨hsensor, hchannel, hconflict, hconfig, hnotRead⟩, hload⟩ := hs
  have hresult : s.startup.result = .notRead := hnotRead (.inr hread)
  have hclear : s.panel.alerts.config.condition = false := by
    rw [hresult] at hconfig
    simpa using hconfig
  have hloud : s.panel.alerts.conflict.condition = false := by
    rw [hread] at hconflict
    simpa using hconflict
  obtain ⟨-, hqueue, hpin, -⟩ := hempty (by rw [hread]; rfl)
  have failed (r : ImageResult) (hr : r ≠ .valid true) (reason : HaltReason) :
      ((s.withResult r).enterHalted reason).Reported :=
    ⟨⟨hsensor, hchannel, iff_of_false (by simpa using hloud) (fun h => by cases h),
      iff_of_false (by simpa using hclear) hr, fun h => h.elim (fun h => by cases h) (fun h => by cases h)⟩, hload⟩
  unfold State.validate
  split_ifs
  · exact failed _ (by simp) _
  · exact failed _ (by simp) _
  · have handed := State.handSettings_condition (s := s.withResult (.valid (takesDefaults m))) m
    refine ⟨⟨?_, ?_, ?_, ?_, fun h => ?_⟩, ?_⟩
    · simpa [Alerts.stateLatch] using (handed .sensor).trans hsensor
    · simpa [Alerts.stateLatch] using (handed .channel).trans hchannel
    · refine iff_of_false (fun h => ?_) (fun h => by cases h)
      have hquiet := (handed .conflict).trans hloud
      simp_all [Alerts.stateLatch]
    · have hbuiltIn := handed .config
      have hvalid : ((s.withResult (.valid (takesDefaults m))).handSettings m).enterSelfTest.startup.result =
          .valid (takesDefaults m) := by
        simp [State.enterSelfTest, State.handTestFrame]
      rw [hvalid]
      simpa [Alerts.stateLatch, hclear, State.withResult] using Bool.eq_iff_iff.mp hbuiltIn
    · exact h.elim (fun h => by cases h) (fun h => by cases h)
    · rw [State.OverloadReported, State.overload_of_empty (by simpa using hqueue) (by simpa using hpin)]
      have hquiet : s.panel.alerts.overload.condition = false := hload.trans (State.overload_of_empty hqueue hpin)
      simpa [Alerts.stateLatch] using (handed .overload).trans hquiet

theorem ChannelAccess.takeHead_condition {channel after : ChannelAccess} {station : Nat} {body : List Byte}
    (hhead : channel.takeHead station = some (body, after)) : after.condition = channel.condition := by
  unfold ChannelAccess.takeHead at hhead
  split at hhead <;> cases hhead <;> rfl

theorem State.Reported.endStall (hs : s.Reported) : s.endStall.Reported := by
  unfold State.endStall
  split_ifs
  · exact hs.reportChannel s.pins _ _
  · exact hs

theorem State.Reported.reportStall (hs : s.Reported) : s.reportStall.Reported := by
  unfold State.reportStall
  split_ifs
  · exact hs
  · exact hs.reportChannel s.pins _ _

/-- A key released: ACK acknowledges or clears latches, and leaves the conditions. -/
theorem State.Reported.takeRelease (hs : s.Reported) (k : Key) (ignored : Bool) : (s.takeRelease k ignored).Reported := by
  unfold State.takeRelease
  dsimp only
  cases k with
  | ack =>
    dsimp only
    split_ifs
    · exact hs
    · have hkept := fun k => (s.setKey .ack .up).panel.releaseAck_condition k
      exact hs.moved (fun k _ => hkept k) (fun h => (hkept .overload).trans h) rfl rfl rfl Iff.rfl id
  | _ => exact hs

theorem State.reset_reported (s : State) : s.held.Reported := by
  have h : State.reset.ConditionsReported ∧ State.reset.OverloadReported := by decide
  exact h

/-! ## Every command -/

theorem Effect.keeps_reported (h : Effect s c t) (hempty : s.EmptyOffFace) (hs : s.Reported) : t.Reported := by
  cases h with
  | reset cause _ => exact s.reset_reported
  | release hreset =>
    have hreleased : s.released.Reported :=
      hs.moved (fun _ _ => rfl) (fun h => h) rfl rfl rfl (iff_of_false (fun h => by cases h) (by simp [hreset]))
        (fun _ => .inl hreset)
    exact hreleased.settle
  | image m hstation _ => exact (State.Reported.validate (by exact hs) (by exact hstation) (by exact hempty) m).settle
  | readEnd hdue =>
    have hread : s.station = .configRead := by simp_all [State.readTimerDue]
    exact (hs.enterHalted (by simp [hread]) _).settle
  | selfTestEnd hdue =>
    have hself : s.station = .selfTest := by simp_all [State.selfTestTimerDue]
    exact (hs.enterHalted (by simp [hself]) _).settle
  | joined hdue =>
    have hlisten : s.station = .listen := by simp_all [State.joinTimerDue]
    have hactive : s.enterActive.Reported :=
      hs.moved (fun _ _ => rfl) (fun h => h) rfl rfl rfl (iff_of_false (fun h => by cases h) (by simp [hlisten]))
        (fun h => h.elim (fun h => by cases h) (fun h => by cases h))
    exact hactive.settle
  | skipped f _ _ => exact State.Reported.handOn (by exact hs) _
  | scanEnd f _ _ => exact State.Reported.handOn (by exact hs) _
  | timeout f _ _ => exact State.Reported.handOn (by exact hs) _
  | tareEnd _ _ => exact (hs.of_reports (s.endTare_reports _) rfl rfl rfl rfl).settle
  | truckLost n _ => exact (hs.of_reports (s.truckLost_reports n) rfl rfl rfl rfl).settle
  | truckRemoved n e _ _ =>
    exact (hs.of_follows (s.truckRemoved_reports e) (s.truckRemoved_follows e) (by simp) (by simp)).settle
  | frameHanded fell body channel _ hhead =>
    have hcondition := ChannelAccess.takeHead_condition hhead
    exact hs.of_reports (.of_same rfl rfl rfl rfl) rfl (by exact hcondition) rfl rfl
  | fallWatched _ _ => exact (hs.reportChannel { s.pins with cdIn := false } s.link _).settle
  | carrierStuck _ => exact (hs.reportChannel s.pins s.link _).settle
  | frameTaken x rest f _ _ _ => exact State.Reported.acceptFrame (by exact hs) f
  | csInResumes _ => exact (State.Reported.endStall (by exact hs)).settle
  | stalled _ =>
    have hstalled := State.Reported.reportStall (s := { s with link := s.link.lineFree }) (by exact hs)
    exact State.Reported.settle (by exact hstalled)
  | press k _ _ => exact (State.Reported.of_follows (s := s.stopDebounce k) (by exact hs) (State.takePress_reports _ k)
      (State.takePress_follows _ k) (by simp) (by simp)).settle
  | keyRelease k ignored _ _ => exact (State.Reported.takeRelease (s := s.stopDebounce k) (by exact hs) k ignored).settle
  | shift _ => exact State.Reported.settle (by exact hs)
  | sent fell f _ _ _ =>
    refine hs.of_reports (.of_same ?_ (by simp) (by simp) (by simp)) (by simp) ?_ (by simp) (by simp)
    · unfold State.lineCharacterSent
      split_ifs <;> simp
    · unfold State.lineCharacterSent
      split_ifs <;> simp [ChannelAccess.condition]
  | looped fell f _ _ _ =>
    refine hs.of_reports (.of_same (by simp) (by simp) (by simp) (by simp)) (by simp) (by simp [ChannelAccess.condition])
      (by simp) ?_
    unfold State.loopedCharacterSent
    dsimp only
    split_ifs <;> rfl
  | accepted x _ => exact State.Reported.startTransfer (by exact hs)
  | retried _ => exact State.Reported.startTransfer (by exact hs)
  | failed _ => exact hs
  | inputRead k a _ _ => exact hs
  | _ =>
    exact hs.of_reports (.of_same (by simp) (by simp) (by simp) (by simp)) (by simp) (by simp [ChannelAccess.condition])
      (by simp) (by simp)

end

/-- Settles O58: every operation that changes what a condition tells of reports it. -/
theorem stepKeepsConditionsReported : Obligations.StepKeepsConditionsReported := by
  intro s t hempty hconditions hoverload hstep
  have kept : t.EmptyOffFace ∧ t.Reported :=
    step_keeps (P := fun s => s.EmptyOffFace ∧ s.Reported)
      (fun _ _ _ h hs => ⟨h.keeps_emptyOffFace hs.1, h.keeps_reported hs.1 hs.2⟩) (fun _ _ _ h => h) (fun _ _ h => h)
      ⟨hempty, hconditions, hoverload⟩ hstep
  exact kept.2

end Sys2Proof.Machine
end


section
/-! The six keys: debounce, presses and releases (R162 to R165, R169, R170), and the transfers to the panel (R158 to
R161). -/

namespace Sys2Proof.Machine

/-! ## Debounce (R162) -/

theorem PerKey.get_set {α : Type} (p : PerKey α) (k j : Key) (a : α) :
    (p.set k a).get j = if j = k then a else p.get j := by
  split_ifs with h
  · rw [h, PerKey.get_set_same]
  · exact p.get_set_other k j a h

theorem StationState.onFace_iff (st : StationState) : st.onFace = true ↔ st = .listen ∨ st = .active ∨ st = .silent := by
  cases st <;> decide

theorem KeyState.startsAt_iff (k : KeyState) (a : Bool) : a = k.startsAt ↔ (a = true ↔ k = .up) := by
  cases k <;> cases a <;> simp [KeyState.startsAt, KeyState.isDown]

theorem CabPanel.otherDown_iff (p : CabPanel) (k : Key) :
    p.otherDown k = true ↔ ∃ j, j ≠ k ∧ p.keys.get j ≠ .up := by
  have hall (j : Key) : j ∈ allKeys := by cases j <;> decide
  have hdown (st : KeyState) : st.isDown = true ↔ st ≠ .up := by cases st <;> simp [KeyState.isDown]
  simp [CabPanel.otherDown, List.any_eq_true, hall, hdown]

section
variable {s : State} {k : Key}

theorem exec_debounceExpiry_up (hdue : s.debounceDue k = true) (hup : s.panel.keys.get k = .up) :
    exec (.keyDebounceExpiry k) s = .next ((s.stopDebounce k).takePress k).settle := by
  show execKeyDebounceExpiry k s = _
  simp only [execKeyDebounceExpiry, if_pos hdue, hup]

theorem exec_debounceExpiry_down {i : Bool} (hdue : s.debounceDue k = true) (hdown : s.panel.keys.get k = .down i) :
    exec (.keyDebounceExpiry k) s = .next ((s.stopDebounce k).takeRelease k i).settle := by
  show execKeyDebounceExpiry k s = _
  simp only [execKeyDebounceExpiry, if_pos hdue, hdown]

theorem State.takePress_of_ignored (h : (∃ j, j ≠ k ∧ s.panel.keys.get j ≠ .up) ∨ s.station.onFace = false) :
    s.takePress k = s.setKey k (.down true) := by
  refine if_pos ?_
  rw [Bool.or_eq_true, CabPanel.otherDown_iff]
  exact h.imp id fun hoff => by simp [hoff]

theorem State.takePress_of_dispatched (hothers : ∀ j, j ≠ k → s.panel.keys.get j = .up)
    (hface : s.station.onFace = true) : s.takePress k = (s.setKey k (.down false)).dispatchPress k := by
  refine if_neg ?_
  rw [Bool.or_eq_true, CabPanel.otherDown_iff, hface]
  rintro (⟨j, hj, hdown⟩ | h)
  · exact hdown (hothers j hj)
  · cases h

theorem exec_keyInputChange_of_same {a : Bool} (h : s.pins.keys.get k = a) : exec (.keyInputChange k a) s = .next s :=
  if_pos h

theorem exec_keyInputChange_of_change {a : Bool} (h : s.pins.keys.get k ≠ a) :
    exec (.keyInputChange k a) s =
      if s.station = .reset then .next { s with pins := { s.pins with keys := s.pins.keys.set k a } }
      else .next { s with
        pins := { s.pins with keys := s.pins.keys.set k a }, panel := s.panel.debounceAt k a s.partTime } :=
  if_neg h

end

/-- Settles O22: the cases of the two key commands. -/
theorem keysAreDebouncedAndIgnored : Obligations.KeysAreDebouncedAndIgnored := by
  refine ⟨fun α p => ⟨rfl, rfl, rfl, rfl, rfl, rfl,
    fun j k a => p.get_set k j a⟩, StationState.onFace_iff, fun k a s => ⟨?_, ?_, ?_⟩,
    fun k tm s htimer hrun hup hignored => ?_⟩
  · exact exec_keyInputChange_of_same
  · intro hchange hreset
    exact (exec_keyInputChange_of_change hchange).trans (if_pos hreset)
  · intro hchange hrun
    rw [exec_keyInputChange_of_change hchange, if_neg hrun]
    simp only [CabPanel.debounceAt, KeyState.startsAt_iff]
  · refine ⟨_, exec_debounceExpiry_up (timerDue_of_run htimer hrun) hup, ?_⟩
    rw [State.takePress_of_ignored (by exact hignored)]
    exact State.settle_settledFrom _

/-! ## Presses dispatched (R163 to R165, R169) -/

theorem TruckTable.following_eq {t : TruckTable} {before after : List Nat} {n : Nat} (hqueue : t.queue = before ++ n :: after)
    (hfirst : n ∉ before) (hreceiving : t.pin.or t.queue.head? = some n) :
    t.following = after.head?.or t.queue.head? := by
  have hdrop : (t.queue.dropWhile (· != n)).drop 1 = after := by
    rw [hqueue, List.dropWhile_append_of_pos (fun m hm => by simpa using fun h : m = n => hfirst (h ▸ hm))]
    simp
  rw [TruckTable.following, TruckTable.receiving, hreceiving]
  dsimp only
  rw [hdrop]
  cases after <;> rfl

/-- Settles O23: the branch of the press that each key takes, settled. -/
theorem dispatchedPressActs : Obligations.DispatchedPressActs := by
  intro k tm s htimer hrun hup hothers hface p
  have hexec := exec_debounceExpiry_up (s := s) (k := k) (timerDue_of_run htimer hrun) hup
  rw [State.takePress_of_dispatched (by exact hothers) (by exact hface)] at hexec
  refine ⟨_, hexec, ?_, ?_, ?_, ?_, ?_, ?_, ?_, ?_⟩
  · rintro rfl
    exact (State.handWhere_settledFrom _ _).trans (State.settle_settledFrom _)
  · rintro rfl
    exact State.settle_settledFrom _
  · rintro rfl
    exact State.settle_settledFrom _
  · rintro rfl hqueue
    have hpress : ((s.stopDebounce .next).setKey .next (.down false)).pressNext =
        (s.stopDebounce .next).setKey .next (.down false) := by
      unfold State.pressNext
      split
      · rfl
      next h => exact absurd (h.symm.trans hqueue) (by simp)
    rw [State.dispatchPress, hpress]
    exact State.settle_settledFrom _
  · rintro before after n rfl hqueue hfirst hreceiving
    have hpress : ((s.stopDebounce .next).setKey .next (.down false)).pressNext = State.evalOverload
        { (s.stopDebounce .next).setKey .next (.down false) with
          trucks := { s.trucks with pin := s.trucks.following } } := by
      unfold State.pressNext
      split
      next h => exact absurd (h.symm.trans hqueue) (by simp)
      · rfl
    rw [State.dispatchPress, hpress, TruckTable.following_eq hqueue hfirst hreceiving]
    exact State.settle_settledFrom _
  · rintro rfl hempty hidle
    rw [State.dispatchPress, State.pressZero, if_pos (by exact ⟨hempty, hidle, StationState.not_halted_of_onFace hface⟩)]
    exact State.settle_settledFrom _
  · rintro rfl hbusy
    rw [State.dispatchPress, State.pressZero,
      if_neg (by exact fun ⟨hempty, hidle, _⟩ => hbusy.elim (fun h => h hempty) (fun h => h hidle))]
    exact State.settle_settledFrom _
  · rintro rfl
    have hcycle := ((s.stopDebounce .void).setKey .void (.down false)).pressVoid_cycle
    refine ⟨State.settle_settledFrom _, by simp [State.dispatchPress, State.setKey, State.stopDebounce],
      by simp [State.dispatchPress, State.setKey, State.stopDebounce], ?_⟩
    rw [State.settle_cycle, State.dispatchPress]
    obtain hkept | hmarked := hcycle
    · rw [hkept]
      exact ⟨rfl, rfl, rfl, rfl⟩
    · rw [hmarked]
      exact ⟨rfl, rfl, rfl, voidNewest_length _⟩

theorem EventLatch.release_eq (l : EventLatch) : l.release = ⟨l.latched && l.raisedInFreeze, false⟩ := by
  unfold EventLatch.release
  split_ifs with h <;> simp [h]

/-- Settles O24: the branch of the release that each key takes, settled. -/
theorem releaseActs : Obligations.ReleaseActs := by
  intro k i tm s htimer hrun hdown p
  have hexec := exec_debounceExpiry_down (s := s) (k := k) (timerDue_of_run htimer hrun) hdown
  have hack (f : Frozen) (hfreeze : s.panel.alerts.freeze = some f) :
      (s.stopDebounce .ack).takeRelease .ack false = { (s.stopDebounce .ack).setKey .ack .up with
        panel := { ((s.stopDebounce .ack).setKey .ack .up).panel with
          alerts := { s.panel.alerts.release f with freeze := none } } } := by
    simp [State.takeRelease, CabPanel.releaseAck, State.setKey, State.stopDebounce, hfreeze]
  refine ⟨_, hexec, ?_, ?_, ?_, ?_, ?_, ?_, ?_⟩
  · intro hack hshift
    cases k with
    | ack => exact absurd rfl hack
    | shift => exact absurd rfl hshift
    | zero | void | next | material => exact State.settle_settledFrom _
  · rintro rfl
    exact State.settle_settledFrom _
  · rintro rfl rfl
    exact State.settle_settledFrom _
  · rintro rfl rfl hnone
    have hkept : (s.stopDebounce .ack).takeRelease .ack false = (s.stopDebounce .ack).setKey .ack .up := by
      simp [State.takeRelease, CabPanel.releaseAck, State.setKey, State.stopDebounce, hnone]
    rw [hkept]
    exact State.settle_settledFrom _
  · rintro rfl rfl hfrozen
    rw [hack _ hfrozen]
    exact State.settle_settledFrom _
  · rintro a rfl rfl hfrozen
    rw [hack _ hfrozen, Alerts.release, EventLatch.release_eq]
    exact State.settle_settledFrom _
  · rintro a rfl rfl hfrozen
    rw [hack _ hfrozen]
    exact State.settle_settledFrom _

/-! ## Transfers to the panel (R158 to R161) -/

section
variable {s : State}

theorem exec_accept_of_none (hnone : s.panel.transfer = none) : exec .accept s = .next s := by
  show execAccept s = _
  simp only [execAccept, hnone]

theorem exec_accept_of_some {x : Transfer} (htransfer : s.panel.transfer = some x) :
    exec .accept s = .next (State.startTransfer { s with panel := s.panel.accepted }) := by
  show execAccept s = _
  simp only [execAccept, htransfer]

/-- In every state but RESET the panel starts its transfer. -/
theorem State.startTransfer_of_panel {p : CabPanel} (hrun : s.station ≠ .reset) (hp : s.panel.startTransfer s.partTime = p) :
    s.startTransfer = { s with panel := p } :=
  (if_neg hrun).trans (by rw [hp])

end

/-- Settles O50: the next transfer is of the first pending cell. -/
theorem panelTransfersEnd : Obligations.PanelTransfersEnd := by
  refine ⟨fun s => ⟨exec_accept_of_none, fun x htransfer hrun hpause => ⟨fun hnone => ?_, ?_⟩⟩,
    fun s => ⟨fun x htransfer hdue => ?_, fun tm c rest hrun hpause hdue htransfer hfields hc => ?_⟩,
    fun s => ⟨fun hnone => ?_, fun x htransfer => ?_⟩⟩
  · rw [exec_accept_of_some htransfer]
    exact congrArg Host.Outcome.next (State.startTransfer_of_panel (s := { s with panel := s.panel.accepted }) hrun
      (CabPanel.startTransfer_of_busy (.inr (.inr hnone))))
  · intro before after c hfields hc hbefore
    rw [exec_accept_of_some htransfer]
    exact congrArg Host.Outcome.next (State.startTransfer_of_panel (s := { s with panel := s.panel.accepted }) hrun
      (CabPanel.startTransfer_of_first rfl hpause hfields hc hbefore))
  · exact if_pos (timerDue_of_run (by rw [htransfer]; rfl) hdue)
  · have hexec : exec .retryPauseExpiry s =
        .next (State.startTransfer { s with panel := { s.panel with retryPause := none } }) :=
      if_pos (timerDue_of_run hpause hdue)
    rw [hexec]
    exact congrArg Host.Outcome.next (State.startTransfer_of_panel
      (s := { s with panel := { s.panel with retryPause := none } }) hrun
      (CabPanel.startTransfer_of_first (before := []) htransfer rfl hfields hc (by simp)))
  · exact ⟨by rw [State.panelLines, hnone], by rw [State.pnlBits, hnone]⟩
  · rw [State.pnlBits, htransfer]
    rfl

end Sys2Proof.Machine
end


section
/-! The alert latches under every command, the ranking of the alert line and the alert a freeze names (R166 to R170). -/

namespace Sys2Proof.Machine

/-! ## The alert line (R168, R169) -/

section
variable (a : Alerts)

theorem Alerts.stateLatch_setState_eq (j k : StateAlert) (l : StateLatch) :
    (a.setState k l).stateLatch j = if j = k then l else a.stateLatch j := by
  split_ifs with h
  · rw [h, Alerts.stateLatch_setState]
  · exact a.stateLatch_setState_other k j l h

theorem Alerts.eventLatch_setEvent_eq (j k : EventAlert) (l : EventLatch) :
    (a.setEvent k l).eventLatch j = if j = k then l else a.eventLatch j := by
  split_ifs with h
  · rw [h, Alerts.eventLatch_setEvent]
  · exact a.eventLatch_setEvent_other l h

/-- A state alert counts for the line when it is latched and not acknowledged. -/
abbrev StateLatch.Wanted (l : StateLatch) : Prop := l.latched = true ∧ l.acknowledged = false

theorem Alerts.wanted_state (k : StateAlert) : a.wanted (.state k) = true ↔ (a.stateLatch k).Wanted := by
  simp [Alerts.wanted]

theorem find?_cons_getD {α β : Type} (p : α → Bool) (x : α) (l : List α) (g : α → β) (d : β) :
    (((x :: l).find? p).map g).getD d = if p x = true then g x else ((l.find? p).map g).getD d := by
  rw [List.find?_cons]
  cases p x <;> rfl

/-- The ranking is the table's order. -/
theorem Alerts.ranked_text (line : Alert → Text) (blank : Text) : (a.ranked.map line).getD blank =
    if a.conflict.Wanted then line (.state .conflict)
    else if a.sensor.Wanted then line (.state .sensor)
    else if a.channel.Wanted then line (.state .channel)
    else if a.overload.Wanted then line (.state .overload)
    else if a.table.latched then line (.event .table)
    else if a.unweighed.latched then line (.event .unweighed)
    else if a.tare.latched then line (.event .tare)
    else if a.config.Wanted then line (.state .config)
    else blank := by
  unfold Alerts.ranked alertOrder
  simp only [find?_cons_getD, Alerts.wanted_state]
  rfl

end

theorem alertShown_alertText (a : Alert) : alertShown (padText (alertText a)) = some a := by
  cases a with
  | state k => cases k <;> rfl
  | event k => cases k <;> rfl

/-- A text is the line text of at most one alert. -/
theorem alertShown_iff (t : Text) (a : Alert) : alertShown t = some a ↔ t = padText (alertText a) := by
  constructor
  · intro h
    have hfound := List.find?_some h
    simpa using (beq_iff_eq.mp hfound).symm
  · rintro rfl
    exact alertShown_alertText a

theorem alertShown_none_iff (t : Text) : alertShown t = none ↔ ∀ a, t ≠ padText (alertText a) := by
  rw [Option.eq_none_iff_forall_ne_some]
  exact forall_congr' fun a => not_congr (alertShown_iff t a)

theorem CabPanel.lineAlert_shown_iff (p : CabPanel) {c : FieldCell} (hc : p.fields[1]? = some c) (a : Alert) :
    p.lineAlert = .shown a ↔ c.text = padText (alertText a) := by
  rw [← alertShown_iff, CabPanel.lineAlert, hc]
  dsimp only
  cases alertShown c.text <;> simp

theorem CabPanel.lineAlert_none_iff (p : CabPanel) {c : FieldCell} (hc : p.fields[1]? = some c) :
    p.lineAlert = .noneShown ↔ ∀ a, c.text ≠ padText (alertText a) := by
  rw [← alertShown_none_iff, CabPanel.lineAlert, hc]
  dsimp only
  cases alertShown c.text <;> simp

section
variable {s t : State} {c : Instr} {a : EventAlert}

theorem alertField_of_ranked (hrun : s.station ≠ .halted) (hfreeze : s.panel.alerts.freeze = none) :
    fieldText s 1 = (s.panel.alerts.ranked.map fun a => padText (alertText a)).getD (padText []) := by
  rw [fieldText_of_running hrun, suppliedText, alertLineText, hfreeze]
  dsimp only
  cases s.panel.alerts.ranked <;> rfl

theorem alertField_of_frozen {f : FieldCell} (hrun : s.station ≠ .halted) (hfreeze : s.panel.alerts.freeze ≠ none)
    (hf : s.panel.fields[1]? = some f) (hlength : f.text.length = 8) : fieldText s 1 = f.text := by
  obtain ⟨x, hx⟩ := Option.ne_none_iff_exists'.mp hfreeze
  rw [fieldText_of_running hrun, suppliedText, alertLineText, hx, hf]
  simp [padText, ← hlength]

theorem StateLatch.report_eq (l : StateLatch) (holds : Bool) : l.report holds =
    if holds = l.condition then l
    else if holds then (if l.latched then { l with condition := true } else ⟨true, false, true⟩)
    else if l.latched && l.acknowledged then ⟨false, false, false⟩
    else { l with condition := false } := by
  obtain ⟨latched, acknowledged, condition⟩ := l
  cases latched <;> rfl

/-! ## Event alerts under every command (R166, R170) -/

theorem State.handSettings_latched (m : Image) (a : EventAlert) :
    (s.handSettings m).panel.alerts.eventLatch a = s.panel.alerts.eventLatch a := by
  unfold State.handSettings
  dsimp only
  split_ifs <;> simp [State.report]

theorem State.validate_latched (m : Image) (a : EventAlert) :
    (s.validate m).panel.alerts.eventLatch a = s.panel.alerts.eventLatch a := by
  unfold State.validate
  split_ifs
  · rfl
  · rfl
  · rw [State.enterSelfTest_panel]
    exact State.handSettings_latched m a

theorem State.takeConflict_latched (a : EventAlert) :
    s.takeConflict.panel.alerts.eventLatch a = s.panel.alerts.eventLatch a := by
  unfold State.takeConflict
  split <;> simp [State.report]

theorem State.acceptFrame_latched (f : List Byte) (ha : (s.panel.alerts.eventLatch a).latched = true) :
    ((s.acceptFrame f).panel.alerts.eventLatch a).latched = true := by
  unfold State.acceptFrame
  dsimp only
  split_ifs
  · simpa [State.becomeBusy] using ha
  · rw [State.settle_panel_alerts]
    by_cases hother : frameSender f = s.becomeBusy.settings.station
    · rw [State.dispatch, if_pos hother, State.takeConflict_latched]
      exact ha
    · exact (State.dispatch_reports _ hother).alerted.latched a ha
  · exact ha

/-- A key released, other than a dispatched ACK, clears no latch. -/
theorem State.takeRelease_alerts {k : Key} (hack : k ≠ .ack) (ignored : Bool) :
    (s.takeRelease k ignored).panel.alerts = s.panel.alerts := by
  cases k with
  | ack => exact absurd rfl hack
  | _ => rfl

theorem Effect.keeps_latched (h : Effect s c t) (hreset : ∀ cause, c ≠ .deviceReset cause)
    (hack : ¬ (c = .keyDebounceExpiry .ack ∧ s.panel.keys.ack ≠ .up)) (ha : (s.panel.alerts.eventLatch a).latched = true) :
    (t.panel.alerts.eventLatch a).latched = true := by
  have handed (u : State) (scan : Scan) (hu : u.panel = s.panel) :
      ((u.handOn scan).panel.alerts.eventLatch a).latched = true :=
    (u.handOn_reports scan).alerted.latched a (by simpa [State.judgeScan, State.report, hu] using ha)
  cases h with
  | reset cause _ => exact absurd rfl (hreset cause)
  | image m _ _ =>
    rw [State.settle_panel_alerts, State.validate_latched]
    exact ha
  | skipped f _ _ => exact handed _ _ rfl
  | scanEnd f _ _ => exact handed _ _ rfl
  | timeout f _ _ => exact handed _ _ rfl
  | tareEnd _ _ =>
    rw [State.settle_panel_alerts]
    exact (s.endTare_reports _).alerted.latched a ha
  | truckLost n _ =>
    rw [State.settle_panel_alerts]
    exact (s.truckLost_reports n).alerted.latched a ha
  | truckRemoved n e _ _ =>
    rw [State.settle_panel_alerts]
    exact (s.truckRemoved_reports e).alerted.latched a ha
  | frameTaken x rest f _ _ _ => exact State.acceptFrame_latched f ha
  | press k _ _ =>
    rw [State.settle_panel_alerts]
    exact ((s.stopDebounce k).takePress_reports k).alerted.latched a ha
  | keyRelease k ignored _ hdown =>
    rw [State.settle_panel_alerts, State.takeRelease_alerts (fun hk => hack ⟨by rw [hk], ?_⟩) ignored]
    · exact ha
    · subst hk
      simp_all [PerKey.get]
  | sent fell f _ _ _ =>
    unfold State.lineCharacterSent
    split_ifs <;> simpa using ha
  | csInResumes _ =>
    unfold State.endStall
    split_ifs <;> simpa [State.reportChannel, State.report] using ha
  | stalled _ =>
    unfold State.reportStall
    split_ifs <;> simpa [State.reportChannel, State.report] using ha
  | accepted x _ => simpa [CabPanel.accepted] using ha
  | failed _ => exact ha
  | inputRead k x _ _ => exact ha
  | _ => simpa using ha

end

/-- Settles O51: the latches under every command, and the alert line by the table's order. -/
theorem eventAlertsWaitForAck : Obligations.EventAlertsWaitForAck := by
  refine ⟨fun a => ⟨⟨rfl, rfl, rfl, rfl, rfl⟩, ⟨rfl, rfl, rfl⟩, fun j k l => ⟨a.stateLatch_setState_eq j k l, ?_, ?_⟩,
    fun j k l => ⟨a.eventLatch_setEvent_eq j k l, ?_, ?_⟩⟩, fun c a s t hexec ha hreset hack => ?_, fun a p => rfl,
    fun k holds p => ?_, ?_⟩
  · exact funext fun x => a.eventLatch_setState k x l
  · exact a.freeze_setState k l
  · exact funext fun x => a.stateLatch_setEvent k x l
  · exact a.freeze_setEvent k l
  · exact (effect_of_exec hexec).keeps_latched hreset hack ha
  · unfold CabPanel.report
    rw [StateLatch.report_eq]
  · intro line
    have hline (x : Alert) : line x = padText (alertText x) := by
      cases x with
      | state k => cases k <;> rfl
      | event k => cases k <;> rfl
    clear_value line
    refine ⟨fun s hrun hfreeze => ?_, fun s f hrun hfreeze hf hlength => alertField_of_frozen hrun hfreeze hf hlength,
      fun p f hf => ⟨fun a => ?_, ?_⟩⟩
    · intro a wanted
      rw [alertField_of_ranked hrun hfreeze, ← funext hline]
      exact a.ranked_text line _
    · rw [p.lineAlert_shown_iff hf, hline]
    · rw [p.lineAlert_none_iff hf]
      simp only [hline]

end Sys2Proof.Machine
end


section
/-! The link port's receive FIFO, the gap limit, the transmitter and the stall (R136 to R140, R144, R148 to R152). -/

namespace Sys2Proof.Machine

section
variable {s : State}

/-! ## The gap limit (R137, R144) -/

theorem State.gapSince_iff (since : Option Instant) : s.gapSince since = true ↔
    ∃ a, since = some a ∧ 3 * s.rate.characterUnits < unitsBetween ⟨s.partTime, s.subTime⟩ a := by
  cases since with
  | none => simp [State.gapSince]
  | some a =>
    exact (decide_eq_true_iff (p := 3 * s.rate.characterUnits < unitsBetween s.now a)).trans (by simp [State.now])

theorem State.gapDue_iff : s.gapDue = true ↔ s.link.assembler ≠ .hunting ∧ s.link.fifo = [] ∧
    ∃ a, s.link.lastArrival = some a ∧ 3 * s.rate.characterUnits < unitsBetween ⟨s.partTime, s.subTime⟩ a := by
  rw [State.gapDue, Bool.and_eq_true, Bool.and_eq_true, State.gapSince_iff, bne_iff_ne, List.isEmpty_iff, and_assoc]

theorem State.discardOnGap_of_due (h : s.gapDue = true) : s.discardOnGap = { s with link := s.link.discard } := if_pos h

theorem State.discardOnGap_of_not (h : ¬ s.gapDue = true) : s.discardOnGap = s := if_neg h

end

/-- Settles O45. -/
theorem gapDiscardsAndBlocksRelease : Obligations.GapDiscardsAndBlocksRelease := by
  refine fun s => ⟨fun a hassembler hfifo harrival hpassed => ?_, fun hkept => ?_, rfl⟩
  · exact congrArg Host.Outcome.next
      (State.discardOnGap_of_due (State.gapDue_iff.mpr ⟨hassembler, hfifo, a, harrival, hpassed⟩))
  · refine congrArg Host.Outcome.next (State.discardOnGap_of_not fun hdue => ?_)
    obtain ⟨hassembler, hfifo, -⟩ := State.gapDue_iff.mp hdue
    exact hkept.elim hassembler fun h => h hfifo

/-! ## Characters received (R136 to R138) -/

section
variable {s : State} {x : LineCharacter}

theorem exec_characterReceived_of_off (h : s.link.receiveEnable = false) : exec (.characterReceived x) s = .next s :=
  if_neg (by simp [h])

theorem exec_characterReceived_of_none (h : (decodeCharacter s.settings.rxdInverted x).startBit = false ∨
    (s.link.awaitRest = true ∧ (decodeCharacter s.settings.rxdInverted x).restBefore = false)) :
    exec (.characterReceived x) s = .next s := by
  show execCharacterReceived x s = _
  unfold execCharacterReceived
  split_ifs with hon
  · exact if_pos (by simpa using h)
  · rfl

section
variable (hon : s.link.receiveEnable = true) (hstart : (decodeCharacter s.settings.rxdInverted x).startBit = true)
  (hrest : s.link.awaitRest = false ∨ (decodeCharacter s.settings.rxdInverted x).restBefore = true)
include hon hstart hrest

theorem exec_characterReceived_eq : exec (.characterReceived x) s =
    if (decodeCharacter s.settings.rxdInverted x).stopBit = true then
      .next { s with link := { s.link.store (decodeCharacter s.settings.rxdInverted x).byte
        (s.gapSince s.link.lastArrival) s.link.onLine.isSome with lastArrival := some s.now, awaitRest := false } }
    else .next { s with link := { s.link with lossPending := true, lastArrival := some s.now, awaitRest := true } } :=
  (if_pos hon).trans (if_neg (by simpa [hstart, or_iff_not_imp_left] using hrest))

end

theorem LinkPort.store_of_room (l : LinkPort) (b : Byte) (gap ownSend : Bool) (hroom : l.fifo.length < 64) :
    l.store b gap ownSend = { l with
      fifo := l.fifo ++ [⟨b, gap, l.lossPending, ownSend⟩], lossPending := false,
      rdyOut := if l.fifo.length = 47 then false else l.rdyOut } := by
  rw [LinkPort.store, if_pos hroom]
  simp

theorem LinkPort.store_of_full (l : LinkPort) (b : Byte) (gap ownSend : Bool) (hfull : l.fifo.length = 64) :
    l.store b gap ownSend = { l with lossPending := true } :=
  if_neg (by omega)

end

/-- Settles O41. -/
theorem characterIsStoredOrLost : Obligations.CharacterIsStoredOrLost := by
  refine ⟨⟨rfl, rfl, rfl, rfl, fun s => rfl, fun a b => rfl, fun s => rfl⟩, fun x s => ?_⟩
  intro levels rested gap
  have hstart : (decodeCharacter s.settings.rxdInverted x).startBit = !levels.getLsbD 0 := rfl
  have hgap : s.gapSince s.link.lastArrival = gap := rfl
  refine ⟨exec_characterReceived_of_off, fun hmark => ?_, fun hunrested => ?_, fun hon hbegin hrest hstop => ⟨?_, ?_⟩,
    fun hon hbegin hrest hstop => ?_⟩
  · exact exec_characterReceived_of_none (.inl (by rw [hstart, hmark]; rfl))
  · have := not_or.mp hunrested
    exact exec_characterReceived_of_none (.inr (by simpa [decodeCharacter] using this))
  · intro hroom
    rw [exec_characterReceived_eq hon (by rw [hstart, hbegin]; rfl) hrest, if_pos (by exact hstop),
      LinkPort.store_of_room _ _ _ _ hroom, hgap]
    rfl
  · intro hfull
    rw [exec_characterReceived_eq hon (by rw [hstart, hbegin]; rfl) hrest, if_pos (by exact hstop),
      LinkPort.store_of_full _ _ _ _ hfull]
    rfl
  · rw [exec_characterReceived_eq hon (by rw [hstart, hbegin]; rfl) hrest, if_neg (by exact ne_true_of_eq_false hstop)]
    rfl

/-! ## CS_IN and the stall (R149, R150) -/

section
variable {s : State}

theorem LinkPort.resume_eq (l : LinkPort) (now : Instant) : l.resume now = { l with
    transmitter := if l.transmitter = .held then .sending else l.transmitter,
    charStart := if l.transmitter = .held then some now else l.charStart,
    stallTimer := if l.transmitter = .held then none else l.stallTimer } := by
  unfold LinkPort.resume
  split_ifs
  · rw [LinkPort.characterDue, if_pos rfl]
  · rfl

theorem State.endStall_eq : s.endStall = { s with
    link := { s.link with stallReported := false },
    channel := if s.link.stallReported then { s.channel with sendStall := false } else s.channel,
    panel := if s.link.stallReported then s.panel.report .channel s.channel.carrierStuck else s.panel } := by
  unfold State.endStall
  split_ifs with hreported
  · simp [State.reportChannel, State.report, ChannelAccess.condition]
  · have hlink : { s.link with stallReported := false } = s.link := by rw [← Bool.eq_false_iff.mpr hreported]
    rw [hlink]

theorem State.reportStall_eq : s.reportStall = { s with
    link := { s.link with stallReported := true },
    channel := { s.channel with sendStall := if s.link.stallReported then s.channel.sendStall else true },
    panel := if s.link.stallReported then s.panel else s.panel.report .channel true } := by
  unfold State.reportStall
  split_ifs with hreported
  · have hlink : { s.link with stallReported := true } = s.link := by rw [← hreported]
    rw [hlink]
  · simp [State.reportChannel, State.report, ChannelAccess.condition]

end

/-- Settles O47. -/
theorem stallBeginsAndEnds : Obligations.StallBeginsAndEnds := by
  refine fun s => ⟨fun hoff => ?_, fun hface => ?_, fun tm hface hheld htimer hrun => ?_⟩
  · exact if_neg (by simp [hoff])
  · have hexec : exec .csInActive s = .next (State.endStall
        { s with pins := { s.pins with csIn := true }, link := s.link.resume s.now }).settle := if_pos hface
    rw [State.endStall_eq, LinkPort.resume_eq] at hexec
    exact ⟨_, hexec, State.settle_settledFrom _⟩
  · have hdue : s.stallTimerDue = true := by simp [State.stallTimerDue, hheld, timerDue_of_run htimer hrun]
    have hexec : exec .stallTimerExpiry s =
        .next (State.reportStall { s with link := s.link.lineFree }).endOwnFrame.settle := if_pos hdue
    rw [State.reportStall_eq] at hexec
    simp only [State.endOwnFrame, hface, Bool.true_and] at hexec
    exact ⟨_, hexec, State.settle_settledFrom _⟩

/-! ## Characters sent (R136, R148, R149, R152, R178) -/

section
variable {s : State} {f : OnLine} {c : Instant} {fell : Bool}

/-- A start bit, the byte's bits from bit 0 on, a stop bit. -/
theorem startByteStop_getLsbD (b : Byte) (i : Nat) : (1#1 ++ b ++ 0#1).getLsbD i =
    if i = 0 then false else if i < 9 then b.getLsbD (i - 1) else decide (i = 9) := by
  rw [BitVec.getLsbD_append, BitVec.getLsbD_append]
  obtain rfl | hpos := Nat.eq_zero_or_pos i
  · simp
  · rw [if_neg (show ¬ i < 1 by omega), if_neg (show ¬ i = 0 by omega)]
    by_cases hdata : i < 9
    · rw [if_pos (by omega), if_pos hdata]
    · rw [if_neg (by omega), if_neg hdata, BitVec.getLsbD_one, decide_eq_true (by decide), Bool.true_and]
      exact decide_eq_decide.mpr (by omega)

theorem encodeCharacter_getLsbD (inverted : Bool) (b : Byte) {i : Nat} (hi : i < 10) :
    (encodeCharacter inverted b).getLsbD i = ((1#1 ++ b ++ 0#1).getLsbD i != inverted) := by
  cases inverted with
  | false => exact (Bool.bne_false _).symm
  | true =>
    have hnot := BitVec.getLsbD_not (x := (1#1 ++ b ++ 0#1)) (i := i)
    rw [decide_eq_true (by omega), Bool.true_and] at hnot
    exact hnot.trans (Bool.bne_true _).symm

theorem encodeCharacter_levels (inverted : Bool) (b : Byte) :
    (encodeCharacter inverted b).getLsbD 0 = inverted ∧ (encodeCharacter inverted b).getLsbD 9 = (!inverted) ∧
      ∀ i, i < 8 → (encodeCharacter inverted b).getLsbD (i + 1) = (b.getLsbD i != inverted) := by
  refine ⟨?_, ?_, fun i hi => ?_⟩ <;> rw [encodeCharacter_getLsbD _ _ (by omega), startByteStop_getLsbD]
  · exact Bool.false_bne _
  · exact Bool.true_bne _
  · rw [if_neg (by omega), if_pos (by omega), Nat.add_sub_cancel]

theorem State.txdCharacter_of_none
    (h : s.link.transmitter ≠ .sending ∨ s.link.loopback = true ∨ s.link.onLine = none) : s.txdCharacter = none := by
  unfold State.txdCharacter
  split
  · rfl
  next f hf =>
    refine if_neg fun ⟨hsending, hline⟩ => ?_
    simp_all

theorem State.txdCharacter_of_sending (hsending : s.link.transmitter = .sending) (hline : s.link.loopback = false)
    (hf : s.link.onLine = some f) :
    s.txdCharacter = some (encodeCharacter s.settings.txdInverted (f.characters.getD f.sent 0)) := by
  simp [State.txdCharacter, hf, hsending, hline]

theorem State.characterSentDue_of_passed (hsending : s.link.transmitter = .sending) (hf : s.link.onLine = some f)
    (hc : s.link.charStart = some c) (hpassed : s.rate.characterUnits ≤ unitsBetween ⟨s.partTime, s.subTime⟩ c) :
    s.characterSentDue = true := by
  have hsince : s.passedSince s.link.charStart s.rate.characterUnits = true := by
    rw [hc]
    exact decide_eq_true hpassed
  simp [State.characterSentDue, hsending, hf, hsince]

theorem exec_characterSent_loopback (hdue : s.characterSentDue = true) (hf : s.link.onLine = some f)
    (hloop : s.link.loopback = true) : exec (.characterSent fell) s = .next ((s.readCsIn fell).loopedCharacterSent f) := by
  show execCharacterSent fell s = _
  unfold execCharacterSent
  rw [if_pos hdue, hf]
  exact if_pos hloop

theorem exec_characterSent_line (hdue : s.characterSentDue = true) (hf : s.link.onLine = some f)
    (hline : s.link.loopback = false) : exec (.characterSent fell) s = .next ((s.readCsIn fell).lineCharacterSent f) := by
  show execCharacterSent fell s = _
  unfold execCharacterSent
  rw [if_pos hdue, hf]
  exact if_neg (by simp [State.readCsIn, hline])

theorem State.rate_of_loopback (hloop : s.link.loopback = true) : s.rate = .baud57600 := if_pos hloop

theorem State.rate_of_line (hline : s.link.loopback = false) : s.rate = s.settings.rate := if_neg (by simp [hline])

theorem LinkPort.characterDue_of_sending {l : LinkPort} (now : Instant) (h : l.transmitter = .sending) :
    l.characterDue now true = { l with charStart := some now, stallTimer := none } := by
  rw [LinkPort.characterDue, if_pos rfl, ← h]

/-- The looped byte in the FIFO. -/
theorem State.receiveByte_of_room (b : Byte) (ownSend : Bool) (hroom : s.link.fifo.length < 64) :
    s.receiveByte b ownSend = { s with link := { s.link with
      fifo := s.link.fifo ++ [⟨b, s.gapSince s.link.lastArrival, s.link.lossPending, ownSend⟩], lossPending := false,
      rdyOut := if s.link.fifo.length = 47 then false else s.link.rdyOut, lastArrival := some s.now } } := by
  unfold State.receiveByte
  rw [LinkPort.store_of_room _ _ _ _ hroom]

end

/-- Settles O46. -/
theorem characterSentGoesOn : Obligations.CharacterSentGoesOn := by
  refine ⟨fun s => ⟨rfl, State.txdCharacter_of_none, fun f hsending hline hf =>
    ⟨_, State.txdCharacter_of_sending hsending hline hf, encodeCharacter_levels _ _⟩⟩, ?_⟩
  intro fell f c s hsending hf hc pins
  refine ⟨fun hloop hpassed hroom => ?_, fun hline hpassed => ⟨fun hmore => ?_, fun hlast => ?_⟩⟩
  · intro gap l
    have hrate := State.rate_of_loopback hloop
    have hdue : s.characterSentDue = true :=
      State.characterSentDue_of_passed hsending hf hc (by rw [hrate]; exact hpassed)
    have hgap : (s.readCsIn fell).gapSince (s.readCsIn fell).link.lastArrival = gap := by
      unfold State.gapSince
      rw [show (s.readCsIn fell).rate = .baud57600 from hrate]
      rfl
    have hreceived : (s.readCsIn fell).receiveByte (f.characters.getD f.sent 0) false = { s with pins := pins, link := l } := by
      rw [State.receiveByte_of_room _ _ (by exact hroom), hgap]
      rfl
    have hl : l.transmitter = .sending := hsending
    clear_value l
    rw [exec_characterSent_loopback hdue hf hloop]
    unfold State.loopedCharacterSent
    rw [hreceived]
    dsimp only
    refine ⟨fun hmore => ?_, fun hlast hhanded => ?_, fun hlast hhanded => ?_⟩
    · rw [if_pos hmore, LinkPort.characterDue_of_sending _ (by exact hl)]
      rfl
    · rw [if_neg (by omega), if_pos hhanded]
      simp [State.handTestFrame, LinkPort.beginFrame, LinkPort.characterDue, LinkPort.lineFree, State.now, hl]
    · rw [if_neg (by omega), if_neg (by omega)]
      rfl
  · have hdue : s.characterSentDue = true :=
      State.characterSentDue_of_passed hsending hf hc (by rw [State.rate_of_line hline]; exact hpassed)
    rw [exec_characterSent_line hdue hf hline, State.lineCharacterSent, if_pos hmore,
      LinkPort.characterDue_eq]
    rfl
  · have hdue : s.characterSentDue = true :=
      State.characterSentDue_of_passed hsending hf hc (by rw [State.rate_of_line hline]; exact hpassed)
    rw [exec_characterSent_line hdue hf hline, State.lineCharacterSent, if_neg (by omega)]
    exact ⟨_, rfl, State.settle_settledFrom _⟩

end Sys2Proof.Machine
end


section
/-! The frame assembler: bytes taken, frames accepted and handed on (R139, R142 to R147). -/

namespace Sys2Proof.Machine

/-! ## A byte taken (R142 to R145) -/

section
variable {l : LinkPort} {x : RxByte}

theorem LinkPort.takeByte_of_start (h : x.byte = startCharacter) : l.takeByte x = (l.begin x.ownSend, none) := if_pos h

theorem LinkPort.takeByte_of_hunting (hstart : x.byte ≠ startCharacter) (h : l.assembler = .hunting) :
    l.takeByte x = (l, none) := (if_neg hstart).trans (if_pos h)

theorem LinkPort.takeByte_of_gap (hstart : x.byte ≠ startCharacter) (hin : l.assembler ≠ .hunting) (h : x.gap = true) :
    l.takeByte x = (l.discard, none) := (if_neg hstart).trans ((if_neg hin).trans (if_pos h))

theorem LinkPort.takeByte_of_in (hstart : x.byte ≠ startCharacter) (hin : l.assembler ≠ .hunting) (h : x.gap = false) :
    l.takeByte x = LinkPort.treat { l with broken := l.broken || x.loss || x.ownSend } x.byte :=
  (if_neg hstart).trans ((if_neg hin).trans (if_neg (by simp [h])))

theorem LinkPort.treat_escape {b : Byte} (hin : l.assembler = .inFrame) (hb : b = escapeCharacter) :
    l.treat b = ({ l with assembler := .escaped }, none) := by
  subst hb
  rw [LinkPort.treat, hin]
  rfl

theorem LinkPort.treat_plain {b : Byte} (hin : l.assembler = .inFrame) (hend : b ≠ endCharacter)
    (hescape : b ≠ escapeCharacter) : l.treat b = (l.keep b, none) := by
  rw [LinkPort.treat, hin]
  exact (if_neg hend).trans (if_neg hescape)

theorem LinkPort.treat_escaped {b : Byte} (hin : l.assembler = .escaped) (hend : b ≠ endCharacter) : l.treat b =
    (if b = 0xE0 ∨ b = 0xE1 ∨ b = 0xE2 then l.keep (b ^^^ 0x10) else { l with assembler := .inFrame, broken := true },
      none) := by
  rw [LinkPort.treat, hin]
  refine (if_neg hend).trans ?_
  split_ifs <;> rfl

theorem LinkPort.treat_end (hin : l.assembler = .inFrame) : l.treat endCharacter = l.finish := by
  rw [LinkPort.treat, hin]
  rfl

theorem LinkPort.treat_end_escaped (hin : l.assembler = .escaped) :
    l.treat endCharacter = LinkPort.finish { l with broken := true } := by
  rw [LinkPort.treat, hin]
  rfl

theorem LinkPort.finish_of_rejected (h : frameAccepted l.broken l.buffer = false) : l.finish = (l.discard, none) := by
  rw [LinkPort.finish, h]
  rfl

theorem LinkPort.finish_of_accepted (h : frameAccepted l.broken l.buffer = true) :
    l.finish = (l.discard, some (l.buffer.take (l.buffer.length - 2))) := by
  rw [LinkPort.finish, if_pos h]

theorem frameAccepted_broken (buffer : List Byte) : frameAccepted true buffer = false := by
  unfold frameAccepted
  dsimp only
  split <;> simp

end

/-! ## ASSEMBLER_TAKES_BYTE (R139, R142, R144) -/

section
variable {s : State} {x : RxByte} {rest : List RxByte} {l : LinkPort} {f : List Byte}

theorem exec_assemblerTakesByte_of_none (hfree : s.link.busy = false) (hfifo : s.link.fifo = x :: rest)
    (htake : (s.link.withoutHead rest).takeByte x = (l, none)) :
    exec .assemblerTakesByte s = .next (State.discardOnGap { s with link := l }) := by
  show execAssemblerTakesByte s = _
  unfold execAssemblerTakesByte
  rw [if_neg (by simp [hfree]), hfifo]
  dsimp only
  rw [htake]

theorem exec_assemblerTakesByte_of_some (hfree : s.link.busy = false) (hfifo : s.link.fifo = x :: rest)
    (htake : (s.link.withoutHead rest).takeByte x = (l, some f)) :
    exec .assemblerTakesByte s = .next (State.acceptFrame { s with link := l } f) := by
  show execAssemblerTakesByte s = _
  unfold execAssemblerTakesByte
  rw [if_neg (by simp [hfree]), hfifo]
  dsimp only
  rw [htake]

/-- Behind the byte the gap limit is read of the same arrival, with the FIFO as the byte left it. -/
theorem State.gapDue_taken (htake : (s.link.withoutHead rest).takeByte x = (l, none)) :
    State.gapDue { s with link := l } = true ↔ rest = [] ∧ l.assembler ≠ .hunting ∧
      ∃ a, s.link.lastArrival = some a ∧ 3 * s.rate.characterUnits < unitsBetween ⟨s.partTime, s.subTime⟩ a := by
  obtain ⟨state, buffer, broken, hl⟩ := (s.link.withoutHead rest).takeByte_frame x
  rw [htake] at hl
  dsimp only at hl
  subst hl
  rw [State.gapDue_iff, and_left_comm]
  rfl

end

/-- Settles O42: the branch of R142 to R145 that a byte takes, then the gap limit. -/
theorem assemblerTreatsAByte : Obligations.AssemblerTreatsAByte := by
  refine ⟨fun x rest s hfree hfifo hend => ?_, fun x rest s hfree hfifo hend hgap hstate => ?_⟩
  · intro l broken kept taken late
    have htake : (s.link.withoutHead rest).takeByte x = (taken, none) := by
      by_cases hstart : x.byte = startCharacter
      · rw [LinkPort.takeByte_of_start hstart, show taken = _ from if_pos hstart]
        rfl
      by_cases hhunting : s.link.assembler = .hunting
      · rw [LinkPort.takeByte_of_hunting hstart (by exact hhunting), show taken = _ from (if_neg hstart).trans (if_pos hhunting)]
        rfl
      by_cases hgap : x.gap = true
      · rw [LinkPort.takeByte_of_gap hstart (by exact hhunting) hgap,
          show taken = _ from (if_neg hstart).trans ((if_neg hhunting).trans (if_pos hgap))]
        rfl
      have hplain : x.byte ≠ endCharacter := fun h => (hend h).elim hhunting hgap
      rw [LinkPort.takeByte_of_in hstart (by exact hhunting) (Bool.eq_false_iff.mpr hgap),
        show taken = _ from (if_neg hstart).trans ((if_neg hhunting).trans (if_neg hgap))]
      by_cases hin : s.link.assembler = .inFrame
      · rw [if_pos hin]
        by_cases hescape : x.byte = escapeCharacter
        · rw [LinkPort.treat_escape (by exact hin) hescape, if_pos hescape]
          rfl
        · rw [LinkPort.treat_plain (by exact hin) hplain hescape, if_neg hescape]
          rfl
      · have hescaped : s.link.assembler = .escaped := by
          cases h : s.link.assembler with
          | hunting => exact absurd h hhunting
          | inFrame => exact absurd h hin
          | escaped => rfl
        rw [LinkPort.treat_escaped (by exact hescaped) hplain, if_neg hin]
        rfl
    refine ⟨fun hearly => ?_, fun hlate => ?_⟩
    · rw [exec_assemblerTakesByte_of_none hfree hfifo htake,
        State.discardOnGap_of_not ((State.gapDue_taken htake).not.mpr hearly)]
    · rw [exec_assemblerTakesByte_of_none hfree hfifo htake,
        State.discardOnGap_of_due ((State.gapDue_taken htake).mpr hlate)]
      rfl
  · have hstart : x.byte ≠ startCharacter := by rw [hend]; decide
    have hin : s.link.assembler ≠ .hunting := by
      rintro h
      simp [h] at hstate
    have htake : (s.link.withoutHead rest).takeByte x = ((s.link.withoutHead rest).discard, none) := by
      rw [LinkPort.takeByte_of_in hstart (by exact hin) hgap, hend]
      obtain hescaped | ⟨hframe, hrejected⟩ := hstate
      · rw [LinkPort.treat_end_escaped (by exact hescaped), LinkPort.finish_of_rejected (frameAccepted_broken _)]
        rfl
      · rw [LinkPort.treat_end (by exact hframe), LinkPort.finish_of_rejected (by exact hrejected)]
        rfl
    rw [exec_assemblerTakesByte_of_none hfree hfifo htake,
      State.discardOnGap_of_not ((State.gapDue_taken htake).not.mpr fun ⟨_, hframe, _⟩ => hframe rfl)]
    rfl

end Sys2Proof.Machine
end


section
/-! Frames accepted: the checks of R146, the layouts read, and where a frame goes in each station state (R147, R153, R178;
chapter 11.1). -/

namespace Sys2Proof.Machine

/-! ## The checks (R146) -/

theorem byteAt_take (f : List Byte) {i n : Nat} (hi : i < n) : byteAt (f.take n) i = byteAt f i := by
  simp [byteAt, List.getD_eq_getElem?_getD, hi]

theorem drop_two (f : List Byte) (hlength : 2 ≤ f.length) :
    f.drop (f.length - 2) = [f.getD (f.length - 2) 0, f.getD (f.length - 2 + 1) 0] := by
  rw [List.drop_eq_getElem_cons (by omega), List.drop_eq_getElem_cons (by omega), List.drop_eq_nil_of_le (by omega),
    List.getD_eq_getElem _ _ (by omega), List.getD_eq_getElem _ _ (by omega)]

/-- Two bytes, high byte first, are a word's. -/
theorem wordBytes_iff (w : BitVec 16) (a b : Byte) :
    [w.extractLsb' 8 8, w.extractLsb' 0 8] = [a, b] ↔ w.toNat = a.toNat * 256 + b.toNat := by
  have hw := w.isLt
  have ha := a.isLt
  have hb := b.isLt
  simp only [List.cons.injEq, and_true, ← BitVec.toNat_inj, BitVec.extractLsb'_toNat, Nat.shiftRight_eq_div_pow]
  omega

theorem payloadLength_iff (k n : Nat) : payloadLength k = some n ↔ (k = 1 ∧ n = 32) ∨ (k = 2 ∧ n = 46) ∨ (k = 3 ∧ n = 8) := by
  unfold payloadLength
  split <;> simp_all [eq_comm]

theorem checkBytes_iff (f : List Byte) (hlength : 2 ≤ f.length) :
    checkBytes (f.take (f.length - 2)) = f.drop (f.length - 2) ↔
      (crc16 (f.take (f.length - 2))).toNat = wordAt f (f.length - 2) := by
  rw [drop_two f hlength]
  exact wordBytes_iff _ _ _

theorem frameAccepted_iff (broken : Bool) (f : List Byte) : frameAccepted broken f = true ↔
    broken = false ∧ 6 ≤ f.length ∧ byteAt f 0 = 1 ∧
      ((byteAt f 1 = 1 ∧ byteAt f 5 = 32 ∧ f.length = 40) ∨ (byteAt f 1 = 2 ∧ byteAt f 5 = 46 ∧ f.length = 54) ∨
        (byteAt f 1 = 3 ∧ byteAt f 5 = 8 ∧ f.length = 16)) ∧
      (crc16 (f.take (f.length - 2))).toNat = wordAt f (f.length - 2) := by
  have hkind : frameAccepted broken f = true ↔ ∃ n, payloadLength (byteAt f 1) = some n ∧ broken = false ∧
      6 ≤ f.length ∧ byteAt f 0 = 1 ∧ byteAt f 5 = n ∧ f.length = 6 + n + 2 ∧
      checkBytes (f.take (f.length - 2)) = f.drop (f.length - 2) := by
    unfold frameAccepted frameKind
    dsimp only
    split
    next h => simp [h]
    next n h =>
      simp only [Bool.and_eq_true, Bool.not_eq_true', decide_eq_true_eq, beq_iff_eq, and_assoc, h, Option.some.injEq,
        exists_eq_left']
  simp only [hkind, payloadLength_iff]
  constructor
  · rintro ⟨n, hn, hbroken, hlength, hversion, hpayload, hall, hcheck⟩
    rw [checkBytes_iff f (by omega)] at hcheck
    exact ⟨hbroken, hlength, hversion, by omega, hcheck⟩
  · rintro ⟨hbroken, hlength, hversion, hkinds, hcheck⟩
    rw [← checkBytes_iff f (by omega)] at hcheck
    exact ⟨byteAt f 5, by omega, hbroken, hlength, hversion, rfl, by omega, hcheck⟩

/-! ## An accepted frame (R139, R147) -/

section
variable {s : State} {rest : List RxByte} {f : List Byte}

/-- The end character of a frame that passes: the assembler hunts again, and the frame goes on. -/
theorem exec_assemblerTakesByte_of_accepted (hfree : s.link.busy = false)
    (hfifo : s.link.fifo = ⟨endCharacter, false, false, false⟩ :: rest) (hin : s.link.assembler = .inFrame)
    (haccepted : frameAccepted s.link.broken s.link.buffer = true) :
    exec .assemblerTakesByte s = .next (State.acceptFrame { s with link := { s.link with
      fifo := rest, rdyOut := if s.link.receiveEnable = true ∧ rest.length = 16 then true else s.link.rdyOut,
      assembler := .hunting, buffer := [], broken := false } } (s.link.buffer.take (s.link.buffer.length - 2))) := by
  have htake : (s.link.withoutHead rest).takeByte ⟨endCharacter, false, false, false⟩ =
      ((s.link.withoutHead rest).discard, some (s.link.buffer.take (s.link.buffer.length - 2))) := by
    rw [LinkPort.takeByte_of_in (by decide) (by simp [LinkPort.withoutHead, hin]) rfl, LinkPort.treat_end (by exact hin),
      LinkPort.finish_of_accepted (by simpa [LinkPort.withoutHead] using haccepted)]
    rfl
  exact exec_assemblerTakesByte_of_some hfree hfifo htake

theorem State.acceptFrame_of_onFace (hface : s.station.onFace = true) :
    s.acceptFrame f = (s.becomeBusy.dispatch f).settle := by
  have hself : s.becomeBusy.station ≠ .selfTest := fun h => by
    rw [show s.station = .selfTest from h] at hface
    cases hface
  exact (if_neg hself).trans (if_pos hface)

theorem State.acceptFrame_of_selfTest (hself : s.station = .selfTest) :
    s.acceptFrame f = (s.becomeBusy.compareTestFrame f).settle := if_pos hself

theorem State.dispatch_of_own (hown : frameSender f = s.settings.station) : s.dispatch f = s.takeConflict := if_pos hown

/-- The body of an accepted frame has its sender. -/
theorem frameSender_of_accepted {broken : Bool} (haccepted : frameAccepted broken f = true) :
    frameSender (f.take (f.length - 2)) = byteAt f 2 := by
  obtain ⟨-, -, -, hkinds, -⟩ := (frameAccepted_iff broken f).mp haccepted
  exact byteAt_take f (by omega)

theorem State.takeConflict_of_silent (h : s.station = .silent) : s.takeConflict = s := by
  rw [State.takeConflict, h]

theorem State.takeConflict_of_listen (h : s.station = .listen) : s.takeConflict =
    State.report { s with station := .silent, startup := { s.startup with joinTimer := none } } .conflict true := by
  rw [State.takeConflict, h]

theorem State.takeConflict_of_active (h : s.station = .active) : s.takeConflict =
    State.report { s with station := .silent, channel := s.channel.leaveActive } .conflict true := by
  rw [State.takeConflict, h]

theorem State.report_conflict (holds : Bool) :
    (s.report .conflict holds).panel.alerts.conflict.condition = holds := s.panel.report_condition .conflict holds

/-- Off ACTIVE no hold-off starts. -/
theorem State.settle_holdOff_of_not_active (h : s.station ≠ .active) : s.settle.channel.holdOff = s.channel.holdOff := by
  rw [State.settle_holdOff, State.settledHoldOff]
  exact if_neg fun hall => h hall.1

end

/-- Settles O43: a conflict report in each state of the face. -/
theorem ownNumberSilencesTheStation : Obligations.OwnNumberSilencesTheStation := by
  rintro x rest s hfree hfifo rfl hin haccepted hown
  have hexec := exec_assemblerTakesByte_of_accepted hfree hfifo hin haccepted
  have hsender := (frameSender_of_accepted haccepted).trans hown
  have onFace (hface : s.station.onFace = true) := hexec.trans (congrArg Host.Outcome.next
    ((State.acceptFrame_of_onFace (by exact hface)).trans (congrArg State.settle (State.dispatch_of_own (by exact hsender)))))
  refine ⟨fun hsilent => ?_, fun hstation => ?_⟩
  · refine ⟨_, onFace (by rw [hsilent]; rfl), ?_⟩
    rw [State.takeConflict_of_silent (by exact hsilent)]
    exact State.settle_settledFrom _
  · refine ⟨_, onFace (by obtain h | h := hstation <;> rw [h] <;> rfl), ?_⟩
    have hsilenced : ∀ u : State, u.station = .silent → u.settle.channel.holdOff = u.channel.holdOff := fun u hu =>
      State.settle_holdOff_of_not_active (by simp [hu])
    obtain hlisten | hactive := hstation
    · rw [State.takeConflict_of_listen (by exact hlisten)]
      refine ⟨by simp, by rw [State.settle_panel_alerts]; exact State.report_conflict true, ?_⟩
      simp [State.becomeBusy, hlisten]
    · rw [State.takeConflict_of_active (by exact hactive)]
      refine ⟨by simp, by rw [State.settle_panel_alerts]; exact State.report_conflict true, ?_⟩
      rw [hsilenced _ rfl]
      simp [State.becomeBusy, hactive, ChannelAccess.leaveActive]

/-! ## The layouts read (chapter 11.1) -/

theorem readStation_eq (n : Nat) : readStation n = if 1 ≤ n ∧ n ≤ 60 then some n else none := by
  simp only [readStation, isStation_iff]

theorem mem_spottedAtList (a b n : Nat) :
    n ∈ spottedAtList a b ↔ (1 ≤ n ∧ n ≤ 60) ∧ (n = a ∨ n = b) := by
  have hread (m : Nat) : n ∈ (readStation m).toList ↔ (1 ≤ n ∧ n ≤ 60) ∧ n = m := by
    rw [readStation_eq]
    split_ifs <;> simp <;> omega
  unfold spottedAtList
  rw [List.mem_append, hread]
  split_ifs with h
  · simp only [List.not_mem_nil, or_false, h, or_self]
  · rw [hread, ← and_or_left]

theorem spottedAtList_nodup (a b : Nat) : (spottedAtList a b).Nodup := by
  unfold spottedAtList
  rw [readStation_eq, readStation_eq]
  split_ifs <;> simp [Ne.symm, *]

theorem spottedAtList_head {a : Nat} (b : Nat) (ha : 1 ≤ a ∧ a ≤ 60) : (spottedAtList a b).head? = some a := by
  rw [spottedAtList, readStation_eq, if_pos ha]
  rfl

/-- The items of entry slots are those that are not padding. -/
theorem slotItems_eq (sender : Nat) (es : List Slot) : es.filterMap (slotItem sender) =
    (es.map fun e => (⟨sender, sender, e.truck, e.epoch, e.revision, e.passes, e.unweighed, e.mass⟩ : Item)).filter
      fun i => i.truck != 0 := by
  induction es with
  | nil => rfl
  | cons e es ih =>
    rw [List.filterMap_cons, List.map_cons, List.filter_cons, ih]
    unfold slotItem
    split_ifs <;> simp_all

theorem partItems_eq (f : List Byte) : partItems f =
    ([0, 1, 2, 3, 4, 5].map fun k => (⟨byteAt f 2, byteAt f 2, byteAt f (10 + 7 * k), byteAt f (11 + 7 * k),
      byteAt f (12 + 7 * k), byteAt f (13 + 7 * k), byteAt f (14 + 7 * k),
      byteAt f (15 + 7 * k) * 256 + byteAt f (16 + 7 * k)⟩ : Item)).filter fun i => i.truck != 0 := by
  rw [partItems, slotItems_eq]
  rfl

/-! ## Frames of other stations, by their kind (R147) -/

section
variable {s : State} {f : List Byte}

theorem State.dispatch_beacon (hother : frameSender f ≠ s.settings.station) (hkind : byteAt f 1 = 1) :
    s.dispatch f = s.takeTruckBeacon (readTruckBeacon f) := (if_neg hother).trans (if_pos hkind)

theorem State.dispatch_part (hother : frameSender f ≠ s.settings.station) (hkind : byteAt f 1 = 2) :
    SettledFrom ((s.rosterPart (frameSender f) ⟨frameSequence f, partWeighing f, partReceiving f⟩).mergeItems (partItems f))
      (s.dispatch f) := by
  have htb : frameKind f ≠ kindTB := fun h => absurd (hkind.symm.trans h) (by decide)
  rw [State.dispatch, if_neg hother, if_neg htb, if_pos (by exact hkind)]
  exact SettledFrom.mergeItems (State.handWhere_settledFrom _ _) _

theorem State.dispatch_notice (hother : frameSender f ≠ s.settings.station) (hkind : byteAt f 1 = 3) (i : Item)
    (hitem : noticeItems f = [i]) : SettledFrom ((s.rosterNotice (frameSender f)).mergeItem i) (s.dispatch f) := by
  have htb : frameKind f ≠ kindTB := fun h => absurd (hkind.symm.trans h) (by decide)
  have hlb : frameKind f ≠ kindLB := fun h => absurd (hkind.symm.trans h) (by decide)
  rw [State.dispatch, if_neg hother, if_neg htb, if_neg hlb, hitem]
  exact ((State.handWhere_settledFrom _ _).mergeItem i).trans (State.handWhere_settledFrom _ _)

end

/-! ## The self-test (R152, R153, R178) -/

section
variable {s : State} {f : List Byte}

theorem State.compareTestFrame_of_next (hf : f = testFrame s.settings.station s.startup.expected)
    (hmore : s.startup.expected < 3) :
    s.compareTestFrame f = { s with startup := { s.startup with expected := s.startup.expected + 1 } } :=
  (if_pos hf).trans (if_neg (by omega))

theorem State.compareTestFrame_of_last (hf : f = testFrame s.settings.station s.startup.expected)
    (hlast : s.startup.expected = 3) : s.compareTestFrame f = s.enterListen := (if_pos hf).trans (if_pos hlast)

theorem State.compareTestFrame_of_wrong (hf : f ≠ testFrame s.settings.station s.startup.expected) :
    s.compareTestFrame f = s.enterHalted .linktest := if_neg hf

theorem State.enterListen_eq : s.enterListen = { s with
    station := .listen
    startup := { s.startup with selfTestTimer := none, expected := 0, handed := 0, joinTimer := some ⟨s.partTime, 3000⟩ }
    link := { s.link.released with receiveEnable := true, rdyOut := true }
    scan := { s.scan with timer := some ⟨s.partTime, s.settings.scanPeriod⟩ }
    channel := if s.pins.cdIn then { s.channel with holdOff := none, carrierWatch := some ⟨s.partTime, 2000⟩ }
      else s.channel } := by
  unfold State.enterListen
  dsimp only
  split_ifs <;> rfl

end

/-- Settles O44: what each kind of accepted frame is handed to, and the test frames in SELF_TEST. -/
theorem acceptedFramesAreTaken : Obligations.AcceptedFramesAreTaken := by
  refine ⟨fun f i => ⟨rfl, rfl⟩, frameAccepted_iff, fun f => ?_,
    fun rest s hfree hfifo hin haccepted => exec_assemblerTakesByte_of_accepted hfree hfifo hin haccepted,
    ⟨fun s => rfl, fun i is s => rfl⟩, fun f s hface hother => ?_, fun station => ⟨rfl, rfl, rfl⟩, fun f s hself => ?_⟩
  · intro station b
    refine ⟨rfl, rfl, rfl, rfl, rfl, fun hflag => ?_, fun hflag => ?_, mem_spottedAtList _ _, spottedAtList_nodup _ _,
      spottedAtList_head _, rfl, fun k hk => ?_⟩
    · have := byteAt_le f 6
      exact if_pos (by omega)
    · exact if_neg (by omega)
    · match k, hk with
      | 0, _ | 1, _ | 2, _ | 3, _ => rfl
  · intro u slot
    rw [State.acceptFrame_of_onFace hface]
    refine ⟨fun hkind => ?_, fun hkind => ?_, fun hkind => ?_⟩
    · rw [State.dispatch_beacon (by exact hother) hkind]
      exact State.settle_settledFrom _
    · have htaken := State.dispatch_part (s := s.becomeBusy) (by exact hother) hkind
      rw [partItems_eq, partReceiving, readStation_eq] at htaken
      exact htaken.trans (State.settle_settledFrom _)
    · exact (State.dispatch_notice (s := s.becomeBusy) (by exact hother) hkind _ rfl).trans (State.settle_settledFrom _)
  · intro released u
    rw [State.acceptFrame_of_selfTest hself]
    refine ⟨fun hf hmore => ?_, fun hf hlast => ?_, fun hf => ?_⟩
    · rw [State.compareTestFrame_of_next (by exact hf) (by exact hmore)]
      exact State.settle_settledFrom _
    · rw [State.compareTestFrame_of_last (by exact hf) (by exact hlast), State.enterListen_eq]
      refine SettledFrom.trans ⟨s.panel.fields, s.panel.transfer, if s.pins.cdIn = true then none else s.channel.holdOff, ?_⟩
        (State.settle_settledFrom _)
      rw [show s.becomeBusy.pins = s.pins from rfl]
      split_ifs <;> rfl
    · rw [State.compareTestFrame_of_wrong (by exact hf)]
      exact State.settle_settledFrom _

end Sys2Proof.Machine
end


section
/-! Frames as they are sent: the check, the stuffing, the layouts, and a sent frame assembled again (R140 to R146,
chapter 11.1). -/

namespace Sys2Proof.Machine

/-! ## The check and the stuffing (R140, R141) -/

theorem crc16_append (bytes : List Byte) (b : Byte) : crc16 (bytes ++ [b]) = crcByte (crc16 bytes) b := by
  rw [crc16, List.foldl_append]
  rfl

theorem stuffByte_eq (b : Byte) : stuffByte b =
    if b = 0xF0 then [0xF0, 0xE0] else if b = 0xF1 then [0xF0, 0xE1] else if b = 0xF2 then [0xF0, 0xE2] else [b] := by
  unfold stuffByte escapeCharacter startCharacter endCharacter
  split_ifs <;> simp_all

theorem frameCharacter_not_mem_stuffByte {c : Byte} (hc : c = startCharacter ∨ c = endCharacter) (b : Byte) :
    c ∉ stuffByte b := by
  rw [stuffByte_eq]
  split_ifs with hescape hstart hend
  · obtain rfl | rfl := hc <;> decide
  · obtain rfl | rfl := hc <;> decide
  · obtain rfl | rfl := hc <;> decide
  · rw [List.mem_singleton]
    rintro rfl
    exact hc.elim hstart hend

theorem frameCharacter_not_mem_stuff {c : Byte} (hc : c = startCharacter ∨ c = endCharacter) (bytes : List Byte) :
    c ∉ stuff bytes := by
  rw [stuff, List.mem_flatMap]
  rintro ⟨b, -, hb⟩
  exact frameCharacter_not_mem_stuffByte hc b hb

/-! ## The layouts written (chapter 11.1) -/

theorem byteOf_toNat {n : Nat} (h : n < 256) : (byteOf n).toNat = n := by
  rw [byteOf, BitVec.toNat_ofNat]
  exact Nat.mod_eq_of_lt h

theorem bytesOf16_toNat {n : Nat} (h : n < 65536) : (byteOf (n / 256)).toNat * 256 + (byteOf n).toNat = n := by
  rw [byteOf_toNat (by omega), byteOf, BitVec.toNat_ofNat]
  omega

/-- Every field of a slot fits its bytes. -/
def Slot.Fits (e : Slot) : Prop :=
  e.truck < 256 ∧ e.epoch < 256 ∧ e.revision < 256 ∧ e.passes < 256 ∧ e.unweighed < 256 ∧ e.mass < 65536

/-- A slot's bytes read again. -/
theorem Slot.read_bytes {e : Slot} (he : e.Fits) :
    (⟨(byteOf e.truck).toNat, (byteOf e.epoch).toNat, (byteOf e.revision).toNat, (byteOf e.passes).toNat,
      (byteOf e.unweighed).toNat, (byteOf (e.mass / 256)).toNat * 256 + (byteOf e.mass).toNat⟩ : Slot) = e := by
  obtain ⟨htruck, hepoch, hrevision, hpasses, hunweighed, hmass⟩ := he
  rw [byteOf_toNat htruck, byteOf_toNat hepoch, byteOf_toNat hrevision, byteOf_toNat hpasses, byteOf_toNat hunweighed,
    bytesOf16_toNat hmass]

theorem Notice.slotAt_frame {station : Nat} {q : Byte} {e : Slot} (he : e.Fits) :
    slotAt (Notice.frame station ⟨e, q⟩) 0 = e := Slot.read_bytes he

theorem BeaconPart.partSlots_frame {station : Nat} {p : BeaconPart} (hlength : p.slots.length = 6)
    (hfits : ∀ e ∈ p.slots, e.Fits) : partSlots (p.frame station) = p.slots ∧ (p.frame station).length = 52 := by
  obtain ⟨sequence, weighing, receiving, part, parts, slots⟩ := p
  match slots, hlength, hfits with
  | [a, b, c, d, u, v], _, hfits =>
    have hread : partSlots (BeaconPart.frame station ⟨sequence, weighing, receiving, part, parts, [a, b, c, d, u, v]⟩) =
        [a, b, c, d, u, v].map fun e => (⟨(byteOf e.truck).toNat, (byteOf e.epoch).toNat, (byteOf e.revision).toNat,
          (byteOf e.passes).toNat, (byteOf e.unweighed).toNat,
          (byteOf (e.mass / 256)).toNat * 256 + (byteOf e.mass).toNat⟩ : Slot) := rfl
    have hsame (e : Slot) (he : e ∈ [a, b, c, d, u, v]) := Slot.read_bytes (hfits e (by exact he))
    exact ⟨hread.trans ((List.map_congr_left hsame).trans (List.map_id' _)), rfl⟩

theorem BeaconPart.partWeighing_frame (station : Nat) (p : BeaconPart) : partWeighing (p.frame station) = p.weighing := by
  obtain ⟨sequence, part, parts, weighing, receiving, slots⟩ := p
  cases weighing <;> rfl

/-- Settles O48. -/
theorem frameEncoding : Obligations.FrameEncoding := by
  refine ⟨⟨rfl, crc16_append, by decide +kernel, rfl, rfl, rfl, fun _ => rfl, fun _ => rfl, fun _ => rfl,
    fun bytes => ⟨frameCharacter_not_mem_stuff (.inl rfl) bytes, frameCharacter_not_mem_stuff (.inr rfl) bytes⟩,
    stuffByte_eq⟩, ?_, fun station q e => rfl, fun station p => rfl, ?_⟩
  · intro station q e htruck hepoch hrevision hpasses hunweighed hmass hstation
    exact ⟨Notice.slotAt_frame ⟨htruck, hepoch, hrevision, hpasses, hunweighed, hmass⟩, byteOf_toNat hstation, rfl, rfl⟩
  · intro station p hstation hreceiving hlength hfits
    obtain ⟨hslots, hframe⟩ := BeaconPart.partSlots_frame (station := station) hlength hfits
    exact ⟨hslots, p.partWeighing_frame station, rfl, byteOf_toNat hstation, rfl, hframe⟩

/-! ## A sent frame assembled again (R140, R142, R143, R146) -/

section
variable {l : LinkPort}

theorem LinkPort.feed_cons {b : Byte} {bs : List Byte} {m : LinkPort} {frame : Option (List Byte)}
    (htake : l.takeByte ⟨b, false, false, false⟩ = (m, frame)) :
    l.feed (b :: bs) = ((m.feed bs).1, frame.toList ++ (m.feed bs).2) := by
  rw [LinkPort.feed, htake]

/-- A byte without marks inside a frame is treated by its value alone. -/
theorem LinkPort.takeByte_unmarked {b : Byte} (hstart : b ≠ startCharacter) (hin : l.assembler ≠ .hunting) :
    l.takeByte ⟨b, false, false, false⟩ = l.treat b := by
  rw [LinkPort.takeByte_of_in hstart hin rfl, Bool.or_false, Bool.or_false]

theorem LinkPort.keep_of_room {b : Byte} (hin : l.assembler = .inFrame) (hroom : l.buffer.length < 54) :
    l.keep b = { l with buffer := l.buffer ++ [b] } := by
  rw [LinkPort.keep, if_pos hroom, ← hin]

/-- An escape pair is one byte of the buffer. -/
theorem LinkPort.feed_escaped {b : Byte} (bs : List Byte) (hin : l.assembler = .inFrame) (hroom : l.buffer.length < 54)
    (hb : b = 0xE0 ∨ b = 0xE1 ∨ b = 0xE2) :
    l.feed (escapeCharacter :: b :: bs) = LinkPort.feed { l with buffer := l.buffer ++ [b ^^^ 0x10] } bs := by
  have hescape := (LinkPort.takeByte_unmarked (by decide) (by simp [hin])).trans
    (LinkPort.treat_escape (b := escapeCharacter) hin rfl)
  have hplain : b ≠ startCharacter ∧ b ≠ endCharacter := by
    obtain rfl | rfl | rfl := hb <;> decide
  have hbyte := (LinkPort.takeByte_unmarked (l := { l with assembler := .escaped }) hplain.1 (by simp)).trans
    (LinkPort.treat_escaped rfl hplain.2)
  rw [if_pos hb, LinkPort.keep, if_pos (by exact hroom)] at hbyte
  rw [LinkPort.feed_cons hescape, LinkPort.feed_cons hbyte, ← hin]
  rfl

/-- A stuffed byte is one byte of the buffer. -/
theorem LinkPort.feed_stuffByte (b : Byte) (bs : List Byte) (hin : l.assembler = .inFrame) (hroom : l.buffer.length < 54) :
    l.feed (stuffByte b ++ bs) = LinkPort.feed { l with buffer := l.buffer ++ [b] } bs := by
  rw [stuffByte_eq]
  split_ifs with hescape hstart hend
  · rw [hescape]
    exact LinkPort.feed_escaped bs hin hroom (by decide)
  · rw [hstart]
    exact LinkPort.feed_escaped bs hin hroom (by decide)
  · rw [hend]
    exact LinkPort.feed_escaped bs hin hroom (by decide)
  · have hbyte := (LinkPort.takeByte_unmarked hstart (by simp [hin])).trans
      ((LinkPort.treat_plain hin hend hescape).trans (by rw [LinkPort.keep_of_room hin hroom]))
    rw [List.singleton_append, LinkPort.feed_cons hbyte]
    rfl

/-- Stuffed bytes are the bytes of the buffer, as far as it holds them. -/
theorem LinkPort.feed_stuff (bytes bs : List Byte) (hin : l.assembler = .inFrame)
    (hroom : l.buffer.length + bytes.length ≤ 54) :
    l.feed (stuff bytes ++ bs) = LinkPort.feed { l with buffer := l.buffer ++ bytes } bs := by
  induction bytes generalizing l with
  | nil => simp [stuff]
  | cons b bytes ih =>
    rw [List.length_cons] at hroom
    rw [stuff, List.flatMap_cons, List.append_assoc, LinkPort.feed_stuffByte b _ hin (by omega),
      ← stuff, ih (by exact hin) (by simp; omega)]
    simp

end

/-- The buffer behind a sent frame's bytes passes the checks. -/
theorem frameAccepted_sent {body : List Byte} {n : Nat} (hheader : 6 ≤ body.length) (hversion : byteAt body 0 = 1)
    (hkind : payloadLength (frameKind body) = some n) (hpayload : byteAt body 5 = n) (hlength : body.length = 6 + n) :
    frameAccepted false (body ++ checkBytes body) = true := by
  have hat {i : Nat} (hi : i < body.length) : byteAt (body ++ checkBytes body) i = byteAt body i := by
    simp [byteAt, List.getD_eq_getElem?_getD, List.getElem?_append_left hi]
  have hall : (body ++ checkBytes body).length - 2 = body.length := by simp [checkBytes]
  unfold frameAccepted frameKind
  rw [hat (by omega), show payloadLength (byteAt body 1) = some n from hkind, hall]
  dsimp only
  rw [List.take_left' rfl, List.drop_left' rfl, hat (by omega), hat (by omega), hversion, hpayload]
  simp [hlength, checkBytes]
  omega

/-- Settles O49: the start character empties the buffer, each stuffed byte fills it, the end character hands it on. -/
theorem sentFramesAssembleAgain : Obligations.SentFramesAssembleAgain := by
  intro body n l hheader hversion hkind hpayload hlength
  have hshort : n ≤ 46 := by
    have := (payloadLength_iff _ _).mp hkind
    omega
  have hbegin : l.takeByte ⟨startCharacter, false, false, false⟩ = (l.begin false, none) := LinkPort.takeByte_of_start rfl
  rw [lineCharacters, LinkPort.feed_cons hbegin,
    LinkPort.feed_stuff _ _ rfl (by simp [LinkPort.begin, checkBytes]; omega)]
  have haccepted := frameAccepted_sent hheader hversion hkind hpayload hlength
  have hfinish := (LinkPort.takeByte_unmarked
    (l := { l.begin false with buffer := body ++ checkBytes body }) (by decide) (by simp [LinkPort.begin])).trans
    ((LinkPort.treat_end rfl).trans (LinkPort.finish_of_accepted haccepted))
  have hbody : (body ++ checkBytes body).take ((body ++ checkBytes body).length - 2) = body := by simp [checkBytes]
  rw [hbody] at hfinish
  rw [show (l.begin false).buffer ++ (body ++ checkBytes body) = body ++ checkBytes body from rfl,
    LinkPort.feed_cons hfinish]
  rfl

end Sys2Proof.Machine
end


section
/-! The truck table: a beacon refreshes an entry or brings a newcomer, a silent truck is LOST and then removed, and what
closing a load leaves (R2 to R18, R43, R44). -/

namespace Sys2Proof.Machine

/-! ## Closing a load (R43, R44) -/

section
variable {s : State} {e : TruckEntry} {reason : CloseReason}

theorem State.closedTally_of_none (h : s.tally.loadRecords e.truck e.epoch = []) : s.closedTally e reason = s.tally := by
  unfold State.closedTally
  dsimp only
  rw [if_pos (by rw [h]; rfl)]

theorem State.closedTally_of_some (h : s.tally.loadRecords e.truck e.epoch ≠ []) : s.closedTally e reason =
    LoadTally.addClosed { s.tally with
      records := s.tally.records.filter fun r => !(r.truck == e.truck && r.epoch == e.epoch) }
      (s.closedLoad e reason (s.tally.loadRecords e.truck e.epoch)) := by
  unfold State.closedTally
  dsimp only
  rw [if_neg (by rwa [List.isEmpty_iff])]

/-- The log holds the newest eight. -/
theorem LoadTally.addClosed_log {t : LoadTally} (hlog : t.log.length ≤ 8) (c : ClosedLoad) :
    (t.addClosed c).log = t.log.drop (t.log.length - 7) ++ [c] := by
  show (if 8 ≤ t.log.length then t.log.drop 1 else t.log) ++ [c] = _
  split_ifs with hfull
  · rw [show t.log.length - 7 = 1 by omega]
  · rw [show t.log.length - 7 = 0 by omega, List.drop_zero]

theorem ownPasses_of_some {rs : List Contribution} {r : Contribution} (h : rs.find? (·.own) = some r) :
    ownPasses rs = r.passes ∧ ownMass rs = r.mass := by
  simp [ownPasses, ownMass, h]

theorem ownPasses_of_none {rs : List Contribution} (h : rs.find? (·.own) = none) : ownPasses rs = 0 ∧ ownMass rs = 0 := by
  simp [ownPasses, ownMass, h]

end

/-! ## A silent truck (R9, R10) -/

section
variable {s : State} {n : Nat} {e : TruckEntry}

theorem exec_truckAgingExpiry (hdue : s.truckAgingDue n = true) :
    exec (.truckAgingExpiry n) s = .next (s.truckLost n).settle := if_pos hdue

theorem exec_lostHoldEnd (hdue : s.lostHoldDue n = true) (hfind : s.trucks.find n = some e) :
    exec (.lostHoldEnd n) s = .next (s.truckRemoved e).settle := by
  show execLostHoldEnd n s = _
  unfold execLostHoldEnd
  rw [if_pos hdue, hfind]

end

/-- Settles O27. -/
theorem silentTruckIsLostThenClosed : Obligations.SilentTruckIsLostThenClosed := by
  refine ⟨fun n e s hfind hstate hsilent => ?_, fun n e l s hfind hlost hsince hheld => ?_, fun e reason s hlog => ?_⟩
  · have hdue : s.truckAgingDue n = true := by
      rw [State.truckAgingDue, hfind]
      exact (Bool.and_eq_true _ _).mpr ⟨bne_iff_ne.mpr hstate, decide_eq_true hsilent⟩
    exact ⟨_, exec_truckAgingExpiry hdue, State.settle_settledFrom _⟩
  · obtain ⟨-, rfl⟩ := s.trucks.find_some n e hfind
    have hdue : s.lostHoldDue e.truck = true := by
      rw [State.lostHoldDue, hfind]
      dsimp only
      rw [hlost, beq_self_eq_true, Bool.true_and]
      exact timerDue_of_run (tm := ⟨l, 30000⟩) (by rw [hsince]; rfl) hheld
    intro u v
    refine ⟨_, exec_lostHoldEnd hdue hfind, SettledFrom.trans ?_ (State.settle_settledFrom _)⟩
    have hu : u = { s with tally := s.closedTally e .lost } := by simp [u]
    obtain ⟨fields, transfer, holdOff, hclosed⟩ :=
      State.handWhere_settledFrom (State.evalOverload { s with tally := s.closedTally e .lost }) fun _ => true
    have hremoved : s.truckRemoved e = State.evalOverload
        { s.closeLoad e .lost with trucks := (s.closeLoad e .lost).trucks.remove e.truck } := rfl
    rw [hremoved, show s.closeLoad e .lost = _ from hclosed, ← hu]
    exact ⟨fields, transfer, holdOff, rfl⟩
  · intro rs tally
    have htally : tally = s.closedTally e reason := State.closeLoad_tally s e reason
    refine ⟨htally ▸ s.closedTally_records e reason, fun hnone => ?_, fun hsome => ?_⟩
    · rw [htally, State.closedTally_of_none hnone]
      exact ⟨rfl, rfl⟩
    · refine ⟨s.closedLoad e reason rs, ?_, rfl, rfl, rfl, rfl, rfl, rfl, fun r => ownPasses_of_some, ownPasses_of_none, rfl,
        rfl, rfl, s.approximate_iff rs e.peerDropped, rfl, ?_⟩
      · rw [htally, State.closedTally_of_some hsome]
        exact LoadTally.addClosed_log (by exact hlog) _
      · rw [htally, State.closedTally_of_some hsome]
        rfl

/-! ## The items of a frame of one truck (R22, R24) -/

section
variable {s : State}

/-- Items of one truck leave of the table all but that truck's peer dropped mark. -/
theorem State.mergeItems_trucks {n : Nat} {is : List Item} (his : ∀ i ∈ is, i.truck = n) :
    (s.mergeItems is).trucks = s.trucks ∨
      (s.mergeItems is).trucks = s.trucks.update n fun e => { e with peerDropped := true } := by
  unfold State.mergeItems
  induction is generalizing s with
  | nil => exact .inl rfl
  | cons i is ih =>
    have hhead : (s.takeItem i).trucks = s.trucks ∨
        (s.takeItem i).trucks = s.trucks.update n fun e => { e with peerDropped := true } := by
      rw [State.takeItem, State.handWhere_trucks, ← his i List.mem_cons_self]
      exact s.mergeItem_trucks i
    have htail := ih (s := s.takeItem i) fun j hj => his j (List.mem_cons_of_mem _ hj)
    obtain hhead | hhead := hhead
    · rwa [hhead] at htail
    · rw [hhead, TruckTable.update_update _ n (fun e => { e with peerDropped := true }) _ fun _ => rfl] at htail
      exact .inr (htail.elim id id)

theorem updateRecord_loads (rs : List Contribution) (contributor truck epoch : Nat) {f : Contribution → Contribution}
    (hf : ∀ x, (f x).truck = x.truck ∧ (f x).epoch = x.epoch) :
    (updateRecord rs contributor truck epoch f).map (fun r => (r.truck, r.epoch)) = rs.map fun r => (r.truck, r.epoch) :=
  updateRecord_map rs (fun r => (r.truck, r.epoch)) fun x => by
    obtain ⟨htruck, hepoch⟩ := hf x
    rw [htruck, hepoch]

/-- What an item makes of the records (R27, R28, R36, R37). -/
theorem State.mergeItem_records (i : Item) : (s.mergeItem i).tally.records = s.tally.records ∨
    (s.mergeItem i).tally.records =
      updateRecord s.tally.records i.contributor i.truck i.epoch (·.replaced i) ∨
    ∃ own, (s.mergeItem i).tally.records = s.tally.records ++ [i.record own] := by
  unfold State.mergeItem
  split
  · split
    · exact .inl rfl
    · split_ifs
      · exact .inl rfl
      · unfold State.adopt
        split <;> split_ifs
        · exact .inr (.inl (by simp [State.withRecords]))
        · exact .inl rfl
        · exact .inl rfl
        · exact .inr (.inr ⟨true, by simp [State.withRecords]⟩)
      · unfold State.mergePeer
        split <;> split_ifs
        · exact .inr (.inl rfl)
        · exact .inl rfl
        · exact .inl rfl
        · exact .inr (.inr ⟨false, rfl⟩)
  · exact .inl rfl

/-- An item brings records of its own load only. -/
theorem State.mergeItem_loads (i : Item) {p : Nat × Nat}
    (hp : p ∈ (s.mergeItem i).tally.records.map fun r => (r.truck, r.epoch)) :
    p ∈ s.tally.records.map (fun r => (r.truck, r.epoch)) ∨ p = (i.truck, i.epoch) := by
  obtain hsame | hupdated | ⟨own, hadded⟩ := s.mergeItem_records i
  · exact .inl (hsame ▸ hp)
  · rw [hupdated, updateRecord_loads _ _ _ _ (f := (·.replaced i)) fun _ => ⟨rfl, rfl⟩] at hp
    exact .inl hp
  · rw [hadded, List.map_append] at hp
    exact (List.mem_append.mp hp).imp id List.mem_singleton.mp

theorem State.mergeItems_loads {n epoch : Nat} {is : List Item} (his : ∀ i ∈ is, i.truck = n ∧ i.epoch = epoch)
    {p : Nat × Nat} (hp : p ∈ (s.mergeItems is).tally.records.map fun r => (r.truck, r.epoch)) :
    p ∈ s.tally.records.map (fun r => (r.truck, r.epoch)) ∨ p = (n, epoch) := by
  unfold State.mergeItems at hp
  induction is generalizing s with
  | nil => exact .inl hp
  | cons i is ih =>
    obtain ⟨htruck, hepoch⟩ := his i List.mem_cons_self
    obtain hold | hnew := ih (s := s.takeItem i) (fun j hj => his j (List.mem_cons_of_mem _ hj)) hp
    · rw [State.takeItem, State.handWhere_tally] at hold
      exact (State.mergeItem_loads i hold).imp id fun h => by rw [h, htruck, hepoch]
    · exact .inr hnew

end

/-! ## A beacon of an entry's truck (R3 to R6, R12 to R16) -/

section
variable {s : State} {b : TruckBeacon} {e : TruckEntry}

theorem TruckBeacon.accepted_iff (b : TruckBeacon) (station : Nat) : b.accepted station = true ↔
    b.senderKind = 2 ∧ (1 ≤ b.truck ∧ b.truck ≤ 60) ∧ b.truck ≠ station ∧ b.epoch ≠ 0 ∧ b.code ≠ 0 := by
  simp only [TruckBeacon.accepted, Bool.and_eq_true, beq_iff_eq, bne_iff_ne, isStation_iff, and_assoc]

theorem TruckBeacon.state_eq (b : TruckBeacon) (station : Nat) : b.state station =
    if b.code = 1 then .inbound else if b.code = 2 then (if station ∈ b.spottedAt then .spottedHere else .spottedAway)
    else .departing := by
  unfold TruckBeacon.state
  split
  next h => rw [h]; rfl
  next h => rw [h]; simp
  next h1 h2 => rw [if_neg h1, if_neg h2]

theorem State.takeTruckBeacon_of_entry (haccepted : b.accepted s.settings.station = true)
    (hfind : s.trucks.find b.truck = some e) : s.takeTruckBeacon b = (s.refreshEntry e b).handEchoes b := by
  rw [State.takeTruckBeacon, if_pos haccepted, hfind]

end

/-! ## The spot queue behind a beacon (R13 to R16) -/

section
variable {t : TruckTable} {n : Nat} {e : TruckEntry} {f : TruckEntry → TruckEntry}

theorem TruckTable.find_update_same (hfind : t.find n = some e) (hf : ∀ x, (f x).truck = x.truck) :
    (t.update n f).find n = some (f e) := by
  obtain ⟨-, htruck⟩ := t.find_some n e hfind
  rw [t.find_update n n hf, hfind, Option.map_some, if_pos htruck]

theorem TruckTable.find_update_other {m : Nat} (hm : m ≠ n) (hf : ∀ x, (f x).truck = x.truck) :
    (t.update n f).find m = t.find m := by
  rw [t.find_update n m hf]
  cases hfind : t.find m with
  | none => rfl
  | some x =>
    obtain ⟨-, htruck⟩ := t.find_some m x hfind
    rw [Option.map_some, if_neg (htruck.trans_ne hm)]

end

/-- Where the truck n stands in the queue of v, with the waiting spot mark w, behind a beacon that finds it in the table t
with the entry e. -/
structure Spotted (t : TruckTable) (n : Nat) (e : TruckEntry) (isHere : Bool) (v : State) (w : Bool) : Prop where
  entered : isHere = true → e.state ≠ .spottedHere →
    if t.queue.length < 3 then v.trucks.queue = t.queue ++ [n] ∧ w = false
    else v.trucks.queue = t.queue ∧ w = true ∧ (v.panel.alerts.eventLatch .table).latched = true
  stayed : isHere = true → e.state = .spottedHere →
    if e.waitingSpot = true ∧ t.queue.length < 3 then v.trucks.queue = t.queue ++ [n] ∧ w = false
    else v.trucks.queue = t.queue ∧ w = e.waitingSpot
  left : isHere = false → v.trucks.queue = t.queue.filter (· != n) ∧
    v.trucks.pin = if t.pin = some n then none else t.pin
  pinned : isHere = true → v.trucks.pin = t.pin

section
variable {t : TruckTable} {n : Nat} {e : TruckEntry} {f : TruckEntry → TruckEntry} {isHere : Bool} {u : State}

theorem TruckTable.join_queue (hn : n ∉ t.queue) : (t.join n).queue = t.queue ++ [n] := by
  simp [TruckTable.join, hn]

theorem State.raise_latched (s : State) (k : EventAlert) : ((s.raise k).panel.alerts.eventLatch k).latched = true := by
  simp [State.raise, CabPanel.raise, EventLatch.raise]

/-- A queue change behind an update of the entry, of a truck whose spot the table has right. -/
theorem State.spotChange_spotted (ht : t.Sound) (hfind : t.find n = some e) (hf : ∀ x, (f x).truck = x.truck)
    (hwaiting : (f e).waitingSpot = e.waitingSpot) (htrucks : u.trucks = t.update n f) :
    ∃ w, Spotted t n e isHere (u.spotChange n (e.state == .spottedHere) e.waitingSpot isHere) w ∧
      (u.spotChange n (e.state == .spottedHere) e.waitingSpot isHere).trucks.find n = some { f e with waitingSpot := w } ∧
      ∀ m, m ≠ n → (u.spotChange n (e.state == .spottedHere) e.waitingSpot isHere).trucks.find m = t.find m := by
  obtain ⟨he, htruck⟩ := t.find_some n e hfind
  obtain ⟨hqueued, hmarked, -⟩ := ht.placed he
  rw [htruck] at hqueued
  have hpinned : n ∉ t.queue → t.pin ≠ some n := fun hn hpin => hn (ht.2.2.2.2.2.2 n hpin)
  have marked (v : TruckTable) (mark : Bool) (hv : v.entries = ((t.update n f).markWaiting n mark).entries) :
      v.find n = some { f e with waitingSpot := mark } ∧ ∀ m, m ≠ n → v.find m = t.find m := by
    have hupdated : (t.update n f).markWaiting n mark = t.update n fun x => { f x with waitingSpot := mark } :=
      t.update_update n f _ hf
    have hsame (m : Nat) : v.find m = (t.update n fun x => { f x with waitingSpot := mark }).find m := by
      rw [← hupdated, TruckTable.find, hv]
      rfl
    exact ⟨(hsame n).trans (TruckTable.find_update_same (f := fun x => { f x with waitingSpot := mark }) hfind hf),
      fun m hm => (hsame m).trans (TruckTable.find_update_other (f := fun x => { f x with waitingSpot := mark }) hm hf)⟩
  have kept (v : TruckTable) (hv : v.entries = (t.update n f).entries) :
      v.find n = some { f e with waitingSpot := e.waitingSpot } ∧ ∀ m, m ≠ n → v.find m = t.find m := by
    have hsame (m : Nat) : v.find m = (t.update n f).find m := by
      rw [TruckTable.find, hv]
      rfl
    exact ⟨by rw [hsame, TruckTable.find_update_same hfind hf, ← hwaiting],
      fun m hm => (hsame m).trans (TruckTable.find_update_other hm hf)⟩
  have absent : ¬ (e.state = .spottedHere ∧ e.waitingSpot = false) → n ∉ t.queue := hqueued.not.mpr
  have unfiltered (hn : n ∉ t.queue) : t.queue.filter (· != n) = t.queue :=
    List.filter_eq_self.mpr fun m hm => bne_iff_ne.mpr fun h => hn (h ▸ hm)
  unfold State.spotChange
  dsimp only
  rw [htrucks]
  split_ifs with hhere hwas hjoins hroom hwas hwait
  · -- from a waiting spot into the queue
    obtain ⟨hwait, hroom⟩ := (Bool.and_eq_true _ _).mp hjoins
    have hroom : t.queue.length < 3 := of_decide_eq_true hroom
    have hjoined := TruckTable.join_queue (absent fun h => by simp [hwait] at h)
    refine ⟨false, ⟨fun _ h => absurd (beq_iff_eq.mp hwas) h, fun _ _ => ?_, fun h => by simp [hhere] at h, fun _ => rfl⟩,
      marked _ false rfl⟩
    rw [if_pos ⟨hwait, hroom⟩]
    exact ⟨hjoined, rfl⟩
  · -- stays
    refine ⟨e.waitingSpot, ⟨fun _ h => absurd (beq_iff_eq.mp hwas) h, fun _ _ => ?_, fun h => by simp [hhere] at h,
      fun _ => by rw [htrucks]; rfl⟩, kept _ (by rw [htrucks])⟩
    rw [if_neg fun ⟨hwait, hroom⟩ => hjoins ((Bool.and_eq_true _ _).mpr ⟨hwait, decide_eq_true hroom⟩), htrucks]
    exact ⟨rfl, rfl⟩
  · -- joins
    have hroom : t.queue.length < 3 := of_decide_eq_true hroom
    have haway : e.state ≠ .spottedHere := fun h => hwas (by rw [h]; rfl)
    have hjoined := TruckTable.join_queue (absent fun h => haway h.1)
    have hunmarked : e.waitingSpot = false := Bool.eq_false_iff.mpr fun h => haway (hmarked h)
    refine ⟨e.waitingSpot, ⟨fun _ _ => ?_, fun _ h => absurd h haway, fun h => by simp [hhere] at h, fun _ => rfl⟩,
      kept _ rfl⟩
    rw [if_pos hroom]
    exact ⟨hjoined, hunmarked⟩
  · -- no room
    have hroom : ¬ t.queue.length < 3 := fun h => hroom (decide_eq_true h)
    have haway : e.state ≠ .spottedHere := fun h => hwas (by rw [h]; rfl)
    refine ⟨true, ⟨fun _ _ => ?_, fun _ h => absurd h haway, fun h => by simp [hhere] at h, fun _ => rfl⟩,
      marked _ true rfl⟩
    rw [if_neg hroom]
    exact ⟨rfl, rfl, State.raise_latched _ _⟩
  · -- leaves its waiting spot
    have hout := absent fun h => by simp [hwait] at h
    refine ⟨false, ⟨fun h => absurd h hhere, fun h => absurd h hhere, fun _ => ⟨(unfiltered hout).symm, ?_⟩,
      fun h => absurd h hhere⟩, marked _ false rfl⟩
    exact (if_neg (hpinned hout)).symm
  · -- leaves the queue
    exact ⟨e.waitingSpot, ⟨fun h => absurd h hhere, fun h => absurd h hhere, fun _ => ⟨rfl, rfl⟩,
      fun h => absurd h hhere⟩, kept _ rfl⟩
  · -- was away and stays away
    have hout := absent fun h => hwas (by rw [h.1]; rfl)
    refine ⟨e.waitingSpot, ⟨fun h => absurd h hhere, fun h => absurd h hhere, fun _ => ?_, fun h => absurd h hhere⟩,
      kept _ (by rw [htrucks])⟩
    rw [htrucks]
    exact ⟨(unfiltered hout).symm, (if_neg (hpinned hout)).symm⟩

end

section
variable {s : State} {b : TruckBeacon} {e : TruckEntry}

theorem Spotted.of_reports {t : TruckTable} {n : Nat} {isHere w : Bool} {v v' : State} (h : Spotted t n e isHere v w)
    (htrucks : v'.trucks = v.trucks) (hreports : v.Alerted v') : Spotted t n e isHere v' w := by
  obtain ⟨hentered, hstayed, hleft, hpinned⟩ := h
  rw [← htrucks] at hstayed hleft hpinned
  refine ⟨fun hhere haway => ?_, hstayed, hleft, hpinned⟩
  have h := hentered hhere haway
  rw [← htrucks] at h
  split_ifs at h ⊢ with hroom
  · exact h
  · obtain ⟨hqueue, hw, hraised⟩ := h
    exact ⟨hqueue, hw, hreports.latched _ hraised⟩

/-- The refreshed entry and its place in the queue (R3, R4, R5, R12). -/
theorem State.refreshEntry_spotted (hs : s.trucks.Sound) (hfind : s.trucks.find b.truck = some e) :
    ∃ w, Spotted s.trucks b.truck e (b.state s.settings.station == .spottedHere) (s.refreshEntry e b) w ∧
      (s.refreshEntry e b).trucks.find b.truck = some { e.refreshed b s.settings.station s.partTime with
        epoch := b.epoch, peerDropped := if b.epoch ≠ e.epoch then false else e.peerDropped, waitingSpot := w } ∧
      ∀ m, m ≠ b.truck → (s.refreshEntry e b).trucks.find m = s.trucks.find m := by
  have refreshed (c : State) (hc : c.trucks = s.trucks) (hnow : c.partTime = s.partTime) :=
    State.spotChange_spotted (isHere := b.state s.settings.station == .spottedHere)
      (u := { c with trucks := c.trucks.update b.truck fun x => { x.refreshed b s.settings.station c.partTime with
        epoch := b.epoch, peerDropped := if decide (b.epoch ≠ e.epoch) then false else x.peerDropped } })
      (f := fun x => { x.refreshed b s.settings.station c.partTime with
        epoch := b.epoch, peerDropped := if decide (b.epoch ≠ e.epoch) then false else x.peerDropped })
      hs hfind (fun _ => rfl) rfl (by rw [hc])
  have hclosed : (if decide (b.epoch ≠ e.epoch) then s.closeLoad e .newLoad else s).trucks = s.trucks ∧
      (if decide (b.epoch ≠ e.epoch) then s.closeLoad e .newLoad else s).partTime = s.partTime := by
    split_ifs <;> simp
  obtain ⟨htrucks, hnow⟩ := hclosed
  obtain ⟨w, hspotted, hfound, hothers⟩ := refreshed _ htrucks hnow
  have hhanded (u : State) : u.evalOverload.showTexts.trucks = u.trucks := by simp
  refine ⟨w, hspotted.of_reports (hhanded _) ((State.evalOverload_alerted _).trans (State.handWhere_reports _ _).alerted), ?_,
    fun m hm => ?_⟩
  · rw [State.refreshEntry, hhanded, hfound, hnow]
    simp only [decide_eq_true_eq]
  · rw [State.refreshEntry, hhanded]
    exact hothers m hm

/-- The echo items are of the beacon's own load. -/
theorem echoItems_load {b : TruckBeacon} {i : Item} (hi : i ∈ b.echoes.filterMap (echoItem b.truck b.epoch)) :
    i.truck = b.truck ∧ i.epoch = b.epoch := by
  obtain ⟨x, -, hx⟩ := List.mem_filterMap.mp hi
  unfold echoItem at hx
  split_ifs at hx
  cases hx
  exact ⟨rfl, rfl⟩

/-- Echo items mark the entry, at most, as dropped (R22). -/
theorem State.handEchoes_find {e : TruckEntry} (hfind : s.trucks.find b.truck = some e) :
    ∃ dropped, (b.echoes = [] → dropped = e.peerDropped) ∧
      (s.handEchoes b).trucks.find b.truck = some { e with peerDropped := dropped } ∧
      (s.handEchoes b).trucks.queue = s.trucks.queue ∧ (s.handEchoes b).trucks.pin = s.trucks.pin ∧
      ∀ m, m ≠ b.truck → (s.handEchoes b).trucks.find m = s.trucks.find m := by
  by_cases hechoes : b.echoes = []
  · have hkept : s.handEchoes b = s := by rw [State.handEchoes, hechoes]; rfl
    rw [hkept]
    exact ⟨e.peerDropped, fun _ => rfl, hfind, rfl, rfl, fun _ _ => rfl⟩
  · obtain hsame | hdropped := State.mergeItems_trucks (s := s) fun i hi => (echoItems_load (b := b) hi).1
    · refine ⟨e.peerDropped, fun h => absurd h hechoes, ?_⟩
      rw [show (s.handEchoes b).trucks = s.trucks from hsame]
      exact ⟨hfind, rfl, rfl, fun _ _ => rfl⟩
    · refine ⟨true, fun h => absurd h hechoes, ?_⟩
      rw [show (s.handEchoes b).trucks = _ from hdropped]
      exact ⟨TruckTable.find_update_same (f := fun e => { e with peerDropped := true }) hfind fun _ => rfl, rfl, rfl,
        fun m hm => TruckTable.find_update_other (f := fun e => { e with peerDropped := true }) hm fun _ => rfl⟩

end

/-- Settles O28. -/
theorem beaconRefreshesTheEntry : Obligations.BeaconRefreshesTheEntry := by
  refine ⟨fun t n => rfl, fun b e s hs hfind hkind htruck hown hepoch hcode => ?_⟩
  intro items
  have haccepted : b.accepted s.settings.station = true :=
    (b.accepted_iff _).mpr ⟨hkind, htruck, hown, hepoch, hcode⟩
  have htaken := State.takeTruckBeacon_of_entry haccepted hfind
  obtain ⟨w, hspotted, hrefreshed, hothers⟩ := State.refreshEntry_spotted hs hfind
  obtain ⟨dropped, hnone, hfound, hqueue, hpin, hkept⟩ := State.handEchoes_find hrefreshed
  refine ⟨_, _, htaken, hfound, rfl, rfl, rfl, rfl, rfl, rfl, b.state_eq _, fun hnew => ?_, fun hnew hechoes => ?_,
    fun hold hechoes => ?_, fun hhere haway => ?_, fun hhere hwas => ?_, fun haway => ?_, fun hhere => ?_, fun n hn => ?_, ?_⟩
  · rintro r hr ⟨hrtruck, hrepoch⟩
    obtain hold | hitem := State.mergeItems_loads (fun i hi => echoItems_load hi)
      (List.mem_map_of_mem (f := fun r : Contribution => (r.truck, r.epoch)) hr)
    · rw [State.refreshEntry_tally, if_pos hnew, State.closedTally_records] at hold
      obtain ⟨x, hx, hload⟩ := List.mem_map.mp hold
      obtain ⟨hxtruck, hxepoch⟩ := Prod.mk.inj hload
      obtain ⟨-, hother⟩ := List.mem_filter.mp hx
      obtain ⟨-, htruck⟩ := s.trucks.find_some _ _ hfind
      simp [hxtruck, hxepoch, hrtruck, hrepoch, htruck] at hother
    · exact hnew ((Prod.mk.inj hitem).2.symm.trans hrepoch)
  · have hkept : (s.refreshEntry e b).handEchoes b = s.refreshEntry e b := by rw [State.handEchoes, hechoes]; rfl
    rw [hkept, State.refreshEntry_tally, State.closeLoad_tally]
    exact ⟨(hnone hechoes).trans (if_pos hnew), if_pos hnew⟩
  · have hkept : (s.refreshEntry e b).handEchoes b = s.refreshEntry e b := by rw [State.handEchoes, hechoes]; rfl
    rw [hkept, State.refreshEntry_tally]
    exact ⟨(hnone hechoes).trans (if_neg (not_not.mpr hold)), if_neg (not_not.mpr hold)⟩
  · have h := hspotted.entered (beq_iff_eq.mpr hhere) haway
    rw [← hqueue] at h
    by_cases hroom : s.trucks.queue.length < 3
    · rw [if_pos hroom] at h ⊢
      exact h
    · rw [if_neg hroom] at h ⊢
      obtain ⟨hqueue, hw, hraised⟩ := h
      exact ⟨hqueue, hw, (State.mergeItems_reports _ _).alerted.latched _ hraised⟩
  · rw [hqueue]
    exact hspotted.stayed (beq_iff_eq.mpr hhere) hwas
  · rw [hqueue, hpin]
    exact hspotted.left (beq_eq_false_iff_ne.mpr haway)
  · rw [hpin]
    exact hspotted.pinned (beq_iff_eq.mpr hhere)
  · rw [hkept n hn, hothers n hn]
  · rw [State.takeTruckBeacon_of_entry (b := { b with echoes := [] }) haccepted hfind]
    rfl

end Sys2Proof.Machine
end


section
/-! Newcomers: the oldest LOST entry gives its place, in the truck table and in the roster (R7, R8, R48 to R54). -/

namespace Sys2Proof.Machine

/-! ## The oldest by last heard (R8, R54) -/

/-- c is heard longer ago than x, or as long ago with a lower number. -/
def Older (now : PartTime) (c x : Nat × PartTime) : Prop :=
  elapsed now x.2 < elapsed now c.2 ∨ (elapsed now x.2 = elapsed now c.2 ∧ c.1 < x.1)

section
variable {now : PartTime} {a c x : Nat × PartTime}

theorem olderOf_of_older_left (h : Older now c x) : olderOf now c x = c :=
  if_neg (by unfold Older at h; omega)

theorem olderOf_of_older_right (h : Older now c x) : olderOf now x c = c :=
  if_pos (by unfold Older at h; omega)

theorem olderOf_self : olderOf now c c = c := ite_self c

theorem foldl_olderOf {l : List (Nat × PartTime)} (hc : c ∈ a :: l) (hall : ∀ x ∈ a :: l, x ≠ c → Older now c x) :
    l.foldl (olderOf now) a = c := by
  induction l generalizing a with
  | nil => exact (List.mem_singleton.mp hc).symm
  | cons b l ih =>
    have hchosen : c ∈ olderOf now a b :: l ∧ (olderOf now a b = a ∨ olderOf now a b = b) := by
      by_cases ha : a = c
      · subst ha
        by_cases hb : b = a
        · rw [hb, olderOf_self]
          exact ⟨List.mem_cons_self, .inl rfl⟩
        · rw [olderOf_of_older_left (hall b (by simp) hb)]
          exact ⟨List.mem_cons_self, .inl rfl⟩
      · by_cases hb : b = c
        · subst hb
          rw [olderOf_of_older_right (hall a (by simp) ha)]
          exact ⟨List.mem_cons_self, .inr rfl⟩
        · refine ⟨List.mem_cons_of_mem _ ?_, ?_⟩
          · simpa [Ne.symm ha, Ne.symm hb] using hc
          · unfold olderOf
            split_ifs
            · exact .inr rfl
            · exact .inl rfl
    obtain ⟨hmem, heither⟩ := hchosen
    refine ih hmem fun x hx => hall x ?_
    obtain rfl | hx := List.mem_cons.mp hx
    · obtain h | h := heither <;> rw [h] <;> simp
    · simp [hx]

theorem oldestOf_eq {l : List (Nat × PartTime)} (hc : c ∈ l) (hall : ∀ x ∈ l, x ≠ c → Older now c x) :
    oldestOf now l = some c.1 := by
  cases l with
  | nil => cases hc
  | cons a l => rw [oldestOf_cons, foldl_olderOf hc hall]

end

/-! ## Evictions from the truck table (R8) -/

section
variable {s : State} {b : TruckBeacon} {e : TruckEntry}

theorem TruckTable.Sound.find_of_mem {t : TruckTable} (ht : t.Sound) (he : e ∈ t.entries) : t.find e.truck = some e := by
  cases hfind : t.find e.truck with
  | none => exact absurd rfl ((t.find_none_iff e.truck).mp hfind e he)
  | some x => rw [ht.eq_of_find hfind he rfl]

theorem State.evictionChoice_eq (hs : s.trucks.Sound) (he : e ∈ s.trucks.entries) (hlost : e.state = .lost)
    (holdest : ∀ x ∈ s.trucks.entries, x.state = .lost → x ≠ e →
      Older s.partTime (e.truck, e.lastHeard) (x.truck, x.lastHeard)) : s.evictionChoice = some e := by
  have hchosen : oldestOf s.partTime ((s.trucks.entries.filter fun e => e.state == .lost).map fun e =>
      (e.truck, e.lastHeard)) = some e.truck := by
    refine oldestOf_eq (c := (e.truck, e.lastHeard)) (List.mem_map.mpr ⟨e, ?_, rfl⟩) fun x hx hne => ?_
    · exact List.mem_filter.mpr ⟨he, beq_iff_eq.mpr hlost⟩
    · obtain ⟨y, hy, rfl⟩ := List.mem_map.mp hx
      obtain ⟨hymem, hylost⟩ := List.mem_filter.mp hy
      exact holdest y hymem (beq_iff_eq.mp hylost) fun h => hne (by rw [h])
  rw [State.evictionChoice, hchosen]
  exact hs.find_of_mem he

theorem State.evictionChoice_none (hnone : ∀ e ∈ s.trucks.entries, e.state ≠ .lost) : s.evictionChoice = none := by
  have hfilter : s.trucks.entries.filter (fun e => e.state == .lost) = [] :=
    List.filter_eq_nil_iff.mpr fun e he => by simpa using hnone e he
  rw [State.evictionChoice, hfilter]
  rfl

/-! ## A newcomer's entry (R7) -/

theorem TruckTable.Sound.not_queued {t : TruckTable} {n : Nat} (ht : t.Sound) (hnew : t.find n = none) : n ∉ t.queue :=
  fun h => by
    obtain ⟨-, -, -, -, hqueued, -, -⟩ := ht
    obtain ⟨e, he, htruck, -⟩ := hqueued n h
    exact (t.find_none_iff n).mp hnew e he htruck

theorem TruckTable.find_added {t : TruckTable} (hnew : t.find e.truck = none) :
    TruckTable.find { t with entries := t.entries ++ [e] } e.truck = some e := by
  unfold TruckTable.find at hnew ⊢
  simp [List.find?_append, hnew]

theorem State.spotChange_newcomer (u : State) (n : Nat) (isHere : Bool) : u.spotChange n false false isHere =
    if isHere = true then
      if u.trucks.queue.length < 3 then { u with trucks := u.trucks.join n }
      else State.raise { u with trucks := u.trucks.markWaiting n true } .table
    else u := by
  unfold State.spotChange
  cases isHere with
  | false => rfl
  | true => by_cases hroom : u.trucks.queue.length < 3 <;> simp [hroom]

/-- The entry, the queue and the alert of a newcomer with a place (R7, R13, R15). -/
theorem State.createEntry_entered (hs : s.trucks.Sound) (hnew : s.trucks.find b.truck = none) {here : Prop} [Decidable here]
    (hhere : (b.state s.settings.station == .spottedHere) = decide here) :
    (s.createEntry b).trucks.entries.map (·.truck) = s.trucks.entries.map (·.truck) ++ [b.truck] ∧
    (s.createEntry b).trucks.pin = s.trucks.pin ∧
    (s.createEntry b).trucks.queue =
      (if here ∧ s.trucks.queue.length < 3 then s.trucks.queue ++ [b.truck] else s.trucks.queue) ∧
    (here ∧ 3 ≤ s.trucks.queue.length → ((s.createEntry b).panel.alerts.eventLatch .table).latched = true) ∧
    (s.createEntry b).trucks.find b.truck = some { b.newEntry s.settings.station s.partTime with
      waitingSpot := decide (here ∧ 3 ≤ s.trucks.queue.length) } ∧
    (s.createEntry b).tally = s.tally := by
  have habsent : ∀ x ∈ s.trucks.entries, x.truck ≠ b.truck := (s.trucks.find_none_iff _).mp hnew
  have handed (v : State) : v.evalOverload.showTexts.trucks = v.trucks ∧ v.evalOverload.showTexts.tally = v.tally ∧
      v.Alerted v.evalOverload.showTexts :=
    ⟨by simp, by simp, v.evalOverload_alerted.trans (State.handWhere_reports _ _).alerted⟩
  have added (w : Bool) := TruckTable.find_added (t := s.trucks)
    (e := { b.newEntry s.settings.station s.partTime with waitingSpot := w }) hnew
  rw [State.createEntry, State.spotChange_newcomer]
  dsimp only
  obtain ⟨htrucks, htally, halerted⟩ := handed (if (b.state s.settings.station == .spottedHere) = true then
      if s.trucks.queue.length < 3 then
        { s with trucks := TruckTable.join { s.trucks with
            entries := s.trucks.entries ++ [b.newEntry s.settings.station s.partTime] } b.truck }
      else State.raise { s with trucks := TruckTable.markWaiting { s.trucks with
            entries := s.trucks.entries ++ [b.newEntry s.settings.station s.partTime] } b.truck true } .table
    else { s with trucks := { s.trucks with
      entries := s.trucks.entries ++ [b.newEntry s.settings.station s.partTime] } })
  rw [htrucks, htally]
  by_cases hh : here
  · rw [if_pos (by rw [hhere]; exact decide_eq_true hh)] at halerted ⊢
    by_cases hroom : s.trucks.queue.length < 3
    · rw [if_pos hroom] at halerted ⊢
      have hfull : ¬ 3 ≤ s.trucks.queue.length := by omega
      refine ⟨by simp [TruckTable.join, TruckBeacon.newEntry], rfl, ?_, fun h => absurd h.2 hfull, ?_, rfl⟩
      · rw [if_pos ⟨hh, hroom⟩]
        exact TruckTable.join_queue (hs.not_queued hnew)
      · rw [decide_eq_false fun h => hfull h.2]
        exact added false
    · rw [if_neg hroom] at halerted ⊢
      have hmarked := s.trucks.markWaiting_added (b.newEntry s.settings.station s.partTime) true habsent
      refine ⟨?_, rfl, ?_, fun _ => halerted.latched _ (State.raise_latched _ _), ?_, rfl⟩
      · rw [State.raise_trucks, show b.truck = (b.newEntry s.settings.station s.partTime).truck from rfl, hmarked]
        simp
      · rw [if_neg fun h => hroom h.2]
        rfl
      · rw [State.raise_trucks, show b.truck = (b.newEntry s.settings.station s.partTime).truck from rfl, hmarked,
          decide_eq_true ⟨hh, by omega⟩]
        exact added true
  · rw [if_neg (by rw [hhere]; simpa using hh)] at halerted ⊢
    refine ⟨by simp [TruckBeacon.newEntry], rfl, ?_, fun h => absurd h.1 hh, ?_, rfl⟩
    · rw [if_neg fun h => hh h.1]
    · rw [decide_eq_false fun h => hh h.1]
      exact added false

theorem State.takeTruckBeacon_of_room (haccepted : b.accepted s.settings.station = true)
    (hnew : s.trucks.find b.truck = none) (hroom : s.trucks.entries.length < 16) :
    s.takeTruckBeacon b = (s.createEntry b).handEchoes b := by
  rw [State.takeTruckBeacon, if_pos haccepted, hnew]
  exact if_pos hroom

theorem State.takeTruckBeacon_of_full (haccepted : b.accepted s.settings.station = true)
    (hnew : s.trucks.find b.truck = none) (hfull : s.trucks.entries.length = 16) (hnone : s.evictionChoice = none) :
    s.takeTruckBeacon b = s.raise .table := by
  rw [State.takeTruckBeacon, if_pos haccepted, hnew]
  refine (if_neg (by omega)).trans ?_
  rw [hnone]

/-- The state in which a newcomer's entry is made behind an eviction. -/
def State.evicted (s : State) (old : TruckEntry) : State :=
  { s.closeLoad old .evicted with trucks := (s.closeLoad old .evicted).trucks.remove old.truck }

theorem State.takeTruckBeacon_of_evicted (haccepted : b.accepted s.settings.station = true)
    (hnew : s.trucks.find b.truck = none) (hfull : s.trucks.entries.length = 16) (hchoice : s.evictionChoice = some e) :
    s.takeTruckBeacon b = ((s.evicted e).createEntry b).handEchoes b := by
  rw [State.takeTruckBeacon, if_pos haccepted, hnew]
  refine (if_neg (by omega)).trans ?_
  rw [hchoice]
  rfl

theorem State.evicted_trucks (old : TruckEntry) : (s.evicted old).trucks = s.trucks.remove old.truck :=
  congrArg (TruckTable.remove · old.truck) (s.closeLoad_trucks old .evicted)

theorem State.takeTruckBeacon_of_refused (hrefused : ¬ b.accepted s.settings.station = true) : s.takeTruckBeacon b = s :=
  if_neg hrefused

theorem TruckBeacon.state_here (b : TruckBeacon) (station : Nat) :
    (b.state station == .spottedHere) = decide (b.code = 2 ∧ station ∈ b.spottedAt) := by
  rw [b.state_eq station, Bool.eq_iff_iff, beq_iff_eq, decide_eq_true_iff]
  split_ifs <;> simp_all

/-- Echo items keep the trucks of the table. -/
theorem State.handEchoes_entries (s : State) (b : TruckBeacon) :
    (s.handEchoes b).trucks.entries.map (·.truck) = s.trucks.entries.map (·.truck) := by
  obtain hsame | hdropped := State.mergeItems_trucks (s := s) fun i hi => (echoItems_load (b := b) hi).1
  · rw [show (s.handEchoes b).trucks = s.trucks from hsame]
  · rw [show (s.handEchoes b).trucks = _ from hdropped]
    exact TruckTable.update_trucks _ _ _ fun _ => rfl

theorem State.handEchoes_of_none (s : State) (hnone : b.echoes = []) : s.handEchoes b = s := by
  rw [State.handEchoes, hnone]
  rfl

end

/-- Settles O29: with a place, without one, and in the place of the oldest LOST entry. -/
theorem newcomerNeedsAPlace : Obligations.NewcomerNeedsAPlace := by
  refine ⟨fun b s hs hnew hkind htruck hown hepoch hcode => ?_, fun b s hrefused => ?_⟩
  · intro items t here entered
    have haccepted : b.accepted s.settings.station = true :=
      (b.accepted_iff _).mpr ⟨hkind, htruck, hown, hepoch, hcode⟩
    have enter (c : State) (hc : c.trucks.Sound) (hcnew : c.trucks.find b.truck = none)
        (hqueue : c.trucks.queue = s.trucks.queue) (hpin : c.trucks.pin = s.trucks.pin)
        (hsettings : c.settings = s.settings) (hnow : c.partTime = s.partTime) (ht : t = (c.createEntry b).handEchoes b)
        (hbare : s.takeTruckBeacon { b with echoes := [] } = c.createEntry b) :
        t.trucks.entries.map (·.truck) = c.trucks.entries.map (·.truck) ++ [b.truck] ∧ entered ∧
          (b.echoes = [] → t.tally = c.tally) := by
      obtain ⟨hentries, hcpin, hcqueue, hraised, hfound, htally⟩ := State.createEntry_entered hc hcnew (here := here)
        (by rw [hsettings]; exact b.state_here _)
      obtain ⟨dropped, hnone, hmarked, hequeue, hepin, -⟩ := State.handEchoes_find hfound
      rw [hqueue, hnow, hsettings] at hmarked
      refine ⟨by rw [ht, State.handEchoes_entries, hentries], ⟨?_, ?_, fun h => ?_, ?_, dropped, hnone, ?_⟩, fun h => ?_⟩
      · rw [ht, hepin, hcpin, hpin]
      · rw [ht, hequeue, hcqueue, hqueue]
      · rw [ht]
        exact (State.mergeItems_reports _ _).alerted.latched _ (hraised (by rwa [hqueue]))
      · rw [hbare, ht]
        rfl
      · rw [ht, hmarked, TruckBeacon.newEntry, b.state_eq]
      · rw [ht, State.handEchoes_of_none _ h, htally]
    refine ⟨fun hroom => ?_, fun hfull hnone => ?_, fun e he hfull hlost holdest => ?_⟩
    · exact enter s hs hnew rfl rfl rfl rfl (State.takeTruckBeacon_of_room haccepted hnew hroom)
        (State.takeTruckBeacon_of_room (b := { b with echoes := [] }) haccepted hnew hroom)
    · exact State.takeTruckBeacon_of_full haccepted hnew hfull (State.evictionChoice_none hnone)
    · have hchoice := State.evictionChoice_eq hs he hlost holdest
      have hfind := hs.find_of_mem he
      have htrucks := s.evicted_trucks e
      obtain ⟨hentries, hentered, htally⟩ := enter (s.evicted e)
        (by rw [htrucks]; exact hs.removed (hs.lost_not_queued hfind hlost))
        (by rw [htrucks]; exact TruckTable.find_remove_of_none hnew) (by rw [htrucks]; rfl) (by rw [htrucks]; rfl)
        (s.closeLoad_settings e .evicted) (s.closeLoad_partTime e .evicted)
        (State.takeTruckBeacon_of_evicted haccepted hnew hfull hchoice)
        (State.takeTruckBeacon_of_evicted (b := { b with echoes := [] }) haccepted hnew hfull hchoice)
      refine ⟨?_, hentered, htally⟩
      rw [hentries, htrucks, TruckTable.remove, List.filter_map]
      rfl
  · refine State.takeTruckBeacon_of_refused fun haccepted => ?_
    obtain ⟨hkind, htruck, hown, hepoch, hcode⟩ := (b.accepted_iff _).mp haccepted
    obtain h | h | h | h | h := hrefused
    · exact h hkind
    · exact h htruck
    · exact hown h
    · exact hepoch h
    · exact hcode h

/-! ## The roster (R48 to R54) -/

section
variable {r : List RosterEntry} {n : Nat} {now : PartTime} {f : RosterEntry → RosterEntry} {e : RosterEntry}

theorem rosterTake_of_entry (hfind : rosterFind r n = some e) : rosterTake r n now f = rosterUpdate r n f := by
  rw [rosterTake, hfind]

theorem rosterTake_of_room (hnew : rosterFind r n = none) (hroom : r.length < 12) :
    rosterTake r n now f = r ++ [f (newRosterEntry n now)] := by
  rw [rosterTake, hnew]
  exact if_pos hroom

theorem rosterTake_of_full (hnew : rosterFind r n = none) (hfull : r.length = 12) (hnone : ∀ e ∈ r, e.state ≠ .lost) :
    rosterTake r n now f = r := by
  have hfilter : r.filter (fun e => e.state == .lost) = [] :=
    List.filter_eq_nil_iff.mpr fun e he => by simpa using hnone e he
  have hchoice : replacedLoader r now = none := by
    rw [replacedLoader, hfilter]
    rfl
  rw [rosterTake, hnew]
  refine (if_neg (by omega)).trans ?_
  rw [hchoice]

theorem rosterTake_of_oldest (hnew : rosterFind r n = none) (hfull : r.length = 12) (he : e ∈ r) (hlost : e.state = .lost)
    (holdest : ∀ x ∈ r, x.state = .lost → x ≠ e → Older now (e.loader, e.lastHeard) (x.loader, x.lastHeard)) :
    rosterTake r n now f = r.filter (·.loader != e.loader) ++ [f (newRosterEntry n now)] := by
  have hchoice : replacedLoader r now = some e.loader := by
    refine oldestOf_eq (c := (e.loader, e.lastHeard)) (List.mem_map.mpr ⟨e, ?_, rfl⟩) fun x hx hne => ?_
    · exact List.mem_filter.mpr ⟨he, beq_iff_eq.mpr hlost⟩
    · obtain ⟨y, hy, rfl⟩ := List.mem_map.mp hx
      obtain ⟨hymem, hylost⟩ := List.mem_filter.mp hy
      exact holdest y hymem (beq_iff_eq.mp hylost) fun h => hne (by rw [h])
  rw [rosterTake, hnew]
  refine (if_neg (by omega)).trans ?_
  rw [hchoice]
  rfl

theorem newRosterEntry_takePart (n : Nat) (now : PartTime) (p : PartFacts) : (newRosterEntry n now).takePart now p =
    ⟨n, .live, now, none, some p.sequence, some p.weighing, some p.receiving⟩ :=
  if_neg (by simp [newRosterEntry])

end

section
variable {s : State} {n : Nat}

theorem State.rosterNotice_roster (hn : 1 ≤ n ∧ n ≤ 60) :
    s.rosterNotice n = { s with roster := rosterTake s.roster n s.partTime (·.heard s.partTime) } :=
  if_pos ((isStation_iff n).mpr hn)

theorem State.rosterPart_roster (hn : 1 ≤ n ∧ n ≤ 60) (p : PartFacts) :
    s.rosterPart n p = { s with roster := rosterTake s.roster n s.partTime (·.takePart s.partTime p) } :=
  if_pos ((isStation_iff n).mpr hn)

end

/-- Settles O36. -/
theorem rosterHearsAndAges : Obligations.RosterHearsAndAges := by
  refine ⟨fun r n => rfl, fun n e s hfind => ⟨fun hlive hsilent => ?_, fun hquiet hsilent => ?_, fun l hlost hsince hheld => ?_⟩,
    fun n p s hout => ?_, fun n p s hlow hhigh _ => ?_⟩
  · have hdue : s.rosterQuietDue n = true := by
      rw [State.rosterQuietDue, hfind]
      exact (Bool.and_eq_true _ _).mpr ⟨beq_iff_eq.mpr hlive, decide_eq_true hsilent⟩
    exact ⟨_, if_pos hdue, State.settle_settledFrom _⟩
  · have hdue : s.rosterLostDue n = true := by
      rw [State.rosterLostDue, hfind]
      exact (Bool.and_eq_true _ _).mpr ⟨beq_iff_eq.mpr hquiet, decide_eq_true hsilent⟩
    exact ⟨_, if_pos hdue, State.settle_settledFrom _⟩
  · have hdue : s.rosterRemovalDue n = true := by
      rw [State.rosterRemovalDue, hfind]
      exact (Bool.and_eq_true _ _).mpr
        ⟨beq_iff_eq.mpr hlost, timerDue_of_run (tm := ⟨l, 60000⟩) (by rw [hsince]; rfl) hheld⟩
    exact ⟨_, if_pos hdue, State.settle_settledFrom _⟩
  · have hstation : ¬ isStation n = true := (isStation_iff n).not.mpr hout
    exact ⟨if_neg hstation, if_neg hstation⟩
  · rw [State.rosterNotice_roster ⟨hlow, hhigh⟩, State.rosterPart_roster ⟨hlow, hhigh⟩]
    refine ⟨fun e hfind => ?_, fun hnew hroom => ?_, fun hnew hfull hnone => ?_, fun e he hnew hfull hlost holdest => ?_⟩
    · exact ⟨rosterTake_of_entry hfind, rosterTake_of_entry hfind⟩
    · exact ⟨rosterTake_of_room hnew hroom,
        (rosterTake_of_room hnew hroom).trans (by rw [newRosterEntry_takePart])⟩
    · rw [rosterTake_of_full hnew hfull hnone, rosterTake_of_full hnew hfull hnone]
      exact ⟨rfl, rfl⟩
    · exact ⟨rosterTake_of_oldest hnew hfull he hlost holdest,
        (rosterTake_of_oldest hnew hfull he hlost holdest).trans (by rw [newRosterEntry_takePart])⟩

end Sys2Proof.Machine
end


section
/-! Channel access: beacons, the transmit queue, the hold-off and the carrier watch (R120 to R133). -/

namespace Sys2Proof.Machine

/-! ## The records of a beacon (R122) -/

theorem insertSlot_eq_orderedInsert (e : Slot) (es : List Slot) :
    insertSlot e es = es.orderedInsert (fun a b => a.truck ≤ b.truck) e := by
  induction es with
  | nil => rfl
  | cons x xs ih => rw [List.orderedInsert_cons, ← ih]; rfl

theorem LoadTally.ownSlots_eq_insertionSort (t : LoadTally) :
    t.ownSlots = ((t.records.filter (·.own)).map Contribution.slot).insertionSort fun a b => a.truck ≤ b.truck :=
  congrArg (List.foldr · [] _) (funext fun e => funext fun es => insertSlot_eq_orderedInsert e es)

theorem LoadTally.ownSlots_perm (t : LoadTally) : t.ownSlots.Perm ((t.records.filter (·.own)).map Contribution.slot) := by
  rw [t.ownSlots_eq_insertionSort]
  exact List.perm_insertionSort _ _

theorem LoadTally.ownSlots_sorted (t : LoadTally) : (t.ownSlots.map (·.truck)).Pairwise (· ≤ ·) := by
  rw [t.ownSlots_eq_insertionSort, List.map_insertionSort _ (· ≤ ·) _ _ fun _ _ _ _ => Iff.rfl]
  exact List.pairwise_insertionSort _ _

theorem LoadTally.ownSlots_length (t : LoadTally) : t.ownSlots.length = t.ownCount := by
  rw [t.ownSlots_perm.length_eq, List.length_map, LoadTally.ownCount, List.countP_eq_length_filter]

theorem sixSlots_eq_pad {es : List Slot} (hes : es.length ≤ 6) :
    sixSlots es = es ++ List.replicate (6 - es.length) Slot.padding := by
  rw [sixSlots, List.take_append, List.take_of_length_le hes, List.take_replicate, Nat.min_eq_left (by omega)]

/-! ## The parts of a beacon (R121, R122) -/

section
variable {s : State}

/-- A part as every beacon of a state holds it, its number, their number and its slots left open. -/
def State.beaconPart (s : State) (sequence : Byte) (parts part : Nat) (slots : List Slot) : BeaconPart :=
  { sequence := sequence, part := part, parts := parts, weighing := s.weigh.available,
    receiving := s.trucks.receiving.getD 0, slots := sixSlots slots }

theorem State.beaconParts_of_few (q : Byte) (h : s.tally.ownCount ≤ 6) :
    s.beaconParts q = [s.beaconPart q 1 1 s.tally.ownSlots] := by
  rw [← s.tally.ownSlots_length] at h
  simp only [State.beaconParts, if_pos h, State.beaconPart]

theorem State.beaconParts_of_many (q : Byte) (h : ¬ s.tally.ownCount ≤ 6) :
    s.beaconParts q = [s.beaconPart q 2 1 (s.tally.ownSlots.take 6), s.beaconPart q 2 2 (s.tally.ownSlots.drop 6)] := by
  rw [← s.tally.ownSlots_length] at h
  simp only [State.beaconParts, if_neg h, State.beaconPart]

theorem State.beaconPart_header (s : State) (q : Byte) (parts part : Nat) (slots : List Slot) :
    (s.beaconPart q parts part slots).sequence = q ∧ (s.beaconPart q parts part slots).parts = parts ∧
      (s.beaconPart q parts part slots).weighing = decide (s.weigh.state ≠ .blocked) ∧
      (s.beaconPart q parts part slots).receiving = (s.trucks.pin.or s.trucks.queue.head?).getD 0 ∧
      (s.beaconPart q parts part slots).slots.length = 6 :=
  ⟨rfl, rfl, Bool.eq_iff_iff.mpr (by simp [State.beaconPart, WeighUnit.available]), rfl, sixSlots_length slots⟩

theorem sixSlots_pair {es : List Slot} (hmany : 6 < es.length) (hfits : es.length ≤ 12) :
    sixSlots (es.take 6) ++ sixSlots (es.drop 6) = es ++ List.replicate (12 - es.length) Slot.padding := by
  have htake : (es.take 6).length = 6 := by simp; omega
  have hdrop : (es.drop 6).length = es.length - 6 := by simp
  rw [sixSlots_eq_pad htake.le, sixSlots_eq_pad (by omega), htake, hdrop, Nat.sub_self, List.replicate_zero,
    List.append_nil, ← List.append_assoc, List.take_append_drop, show 6 - (es.length - 6) = 12 - es.length by omega]

theorem exec_beaconTimerExpiry_of_due (hdue : s.beaconTimerDue = true) : exec .beaconTimerExpiry s =
    .next { s.buildBeacon with channel := { s.buildBeacon.channel with
      beaconTimer := nextPeriod s.channel.beaconTimer } }.settle := if_pos hdue

end

/-- Settles O37, by the number of own records against the six slots of a part. -/
theorem beaconIsBuilt : Obligations.BeaconIsBuilt := by
  refine ⟨fun tm s hactive htimer hrun => ?_, fun q s hfits => ?_⟩
  · have hdue : s.beaconTimerDue = true := by
      rw [State.beaconTimerDue, hactive, timerDue_of_run htimer hrun]
      rfl
    refine ⟨_, exec_beaconTimerExpiry_of_due hdue, ?_⟩
    rw [htimer, nextPeriod_some]
    exact State.settle_settledFrom _
  · intro ps own n
    by_cases hfew : s.tally.ownCount ≤ 6
    · have hparts : ps = [s.beaconPart q 1 1 s.tally.ownSlots] := State.beaconParts_of_few q hfew
      have hn : n = 1 := if_pos hfew
      rw [hparts, hn]
      refine ⟨rfl, rfl, ?_, s.tally.ownSlots, s.tally.ownSlots_perm, s.tally.ownSlots_sorted, ?_⟩
      · simpa only [List.forall_mem_singleton] using s.beaconPart_header q 1 1 s.tally.ownSlots
      · rw [← s.tally.ownSlots_length] at hfew ⊢
        exact (List.append_nil _).trans (sixSlots_eq_pad hfew)
    · have hparts : ps = _ := State.beaconParts_of_many q hfew
      have hn : n = 2 := if_neg hfew
      rw [hparts, hn]
      refine ⟨rfl, rfl, ?_, s.tally.ownSlots, s.tally.ownSlots_perm, s.tally.ownSlots_sorted, ?_⟩
      · simp only [List.forall_mem_cons]
        exact ⟨s.beaconPart_header q 2 1 _, s.beaconPart_header q 2 2 _, by simp⟩
      · rw [← s.tally.ownSlots_length] at hfew hfits ⊢
        rw [List.flatMap_cons, List.flatMap_cons, List.flatMap_nil, List.append_nil]
        exact (sixSlots_pair (not_le.mp hfew) hfits)

/-! ## The joining of a notice (R125) -/

section
variable {c : ChannelAccess} {n : Notice}

/-- Two notices speak of one load. -/
def Notice.SameLoad (n q : Notice) : Prop := q.slot.truck = n.slot.truck ∧ q.slot.epoch = n.slot.epoch

theorem ChannelAccess.queueNotice_of_held {q : Notice} {before after : List Notice} (hq : n.SameLoad q)
    (hnotices : c.notices = before ++ q :: after) (hbefore : ∀ x ∈ before, ¬ n.SameLoad x)
    (hafter : ∀ x ∈ after, ¬ n.SameLoad x) : (c.queueNotice n).notices = before ++ n :: after := by
  have hkept : ∀ l : List Notice, (∀ x ∈ l, ¬ n.SameLoad x) →
      l.map (fun x => if (x.slot.truck == n.slot.truck && x.slot.epoch == n.slot.epoch) = true then n else x) = l :=
    fun l hl => (List.map_congr_left fun x hx => if_neg (by simpa [Notice.SameLoad] using hl x hx)).trans (List.map_id l)
  have hsame : (q.slot.truck == n.slot.truck && q.slot.epoch == n.slot.epoch) = true := by
    simpa [Notice.SameLoad] using hq
  have hany : c.notices.any (fun x => x.slot.truck == n.slot.truck && x.slot.epoch == n.slot.epoch) = true :=
    List.any_eq_true.mpr ⟨q, by simp [hnotices], hsame⟩
  rw [ChannelAccess.queueNotice, if_pos (by exact hany)]
  simp only [hnotices, List.map_append, List.map_cons, hkept before hbefore, hkept after hafter, if_pos hsame]

theorem ChannelAccess.queueNotice_of_new (hnew : ∀ x ∈ c.notices, ¬ n.SameLoad x) : c.queueNotice n =
    if c.notices.length < 4 then { c with notices := c.notices ++ [n] }
    else { c with notices := c.notices.drop 1 ++ [n] } := by
  refine if_neg fun hany => ?_
  obtain ⟨x, hx, hsame⟩ := List.any_eq_true.mp hany
  exact hnew x hx (by simpa [Notice.SameLoad] using hsame)

end

/-- Settles O38. -/
theorem noticeJoinsOrCoalesces : Obligations.NoticeJoinsOrCoalesces := by
  refine fun n c => ⟨?_, fun before after q hnotices hq hbefore hafter => ?_, fun hnew hroom => ?_,
    fun q rest hnew hfull hnotices => ?_⟩
  · rw [c.queueNotice_eq n]
  · exact ChannelAccess.queueNotice_of_held hq hnotices hbefore hafter
  · rw [ChannelAccess.queueNotice_of_new hnew, if_pos hroom]
  · rw [ChannelAccess.queueNotice_of_new hnew, if_neg (by omega), hnotices]
    rfl

/-! ## The end of the hold-off (R126, R129, R148) -/

section
variable {s : State}

theorem ChannelAccess.takeHead_of_notice {c : ChannelAccess} {n : Notice} {ns : List Notice} (h : c.notices = n :: ns)
    (station : Nat) : c.takeHead station = some (n.frame station, { c with notices := ns }) := by
  simp only [ChannelAccess.takeHead, h]

theorem ChannelAccess.takeHead_of_part {c : ChannelAccess} {p : BeaconPart} {ps : List BeaconPart} (hnone : c.notices = [])
    (h : c.parts = p :: ps) (station : Nat) : c.takeHead station = some (p.frame station, { c with parts := ps }) := by
  simp only [ChannelAccess.takeHead, hnone, h]

theorem LinkPort.beginFrame_eq (l : LinkPort) (body : List Byte) (now : Instant) (csIn : Bool) :
    l.beginFrame body now csIn = { l with
      onLine := some ⟨startCharacter :: (stuff (body ++ checkBytes body) ++ [endCharacter]), 0⟩,
      transmitter := if csIn then .sending else .held,
      charStart := if csIn then some now else none,
      stallTimer := if csIn then none else some ⟨now.ms, 500⟩ } := by
  cases csIn <;> rfl

theorem exec_holdOffExpiry_of_head {body : List Byte} {channel : ChannelAccess} (fell : Bool) (hdue : s.holdOffDue = true)
    (hhead : s.channel.takeHead s.settings.station = some (body, channel)) : exec (.holdOffExpiry fell) s =
      .next { s.readCsIn fell with
        channel := { channel with holdOff := none, frameOnLine := true, carrierWatch := none }
        link := s.link.beginFrame body s.now (s.pins.csIn && !fell) } := by
  show execHoldOffExpiry fell s = _
  rw [execHoldOffExpiry, if_pos hdue, hhead]
  rfl

end

/-- Settles O39, by the kind of the head: a notice, or a part behind no notice. -/
theorem holdOffHandsTheHead : Obligations.HoldOffHandsTheHead := by
  intro fell tm body s hactive htimer hrun hhead
  have hdue : s.holdOffDue = true := by
    rw [State.holdOffDue, hactive, timerDue_of_run htimer hrun]
    rfl
  rcases hhead with ⟨n, ns, hnotices, rfl⟩ | ⟨hnone, p, ps, hparts, rfl⟩
  · refine ⟨_, exec_holdOffExpiry_of_head fell hdue (ChannelAccess.takeHead_of_notice hnotices _), ?_⟩
    rw [LinkPort.beginFrame_eq, hnotices]
    rfl
  · refine ⟨_, exec_holdOffExpiry_of_head fell hdue (ChannelAccess.takeHead_of_part hnone hparts _), ?_⟩
    have hdrop : s.channel.notices.drop 1 = s.channel.notices := by rw [hnone]; rfl
    rw [LinkPort.beginFrame_eq, hparts, if_pos hnone, hdrop]
    rfl

/-! ## The carrier watch (R127, R128, R132, R133) -/

section
variable {s : State}

theorem exec_carrierRise_of_low (hlow : s.pins.cdIn = false) : exec .carrierRise s =
    if (s.station.onFace && !s.channel.frameOnLine) = true then
      .next { s with pins := { s.pins with cdIn := true } }.watchCarrier
    else .next { s with pins := { s.pins with cdIn := true } } := if_neg (ne_true_of_eq_false hlow)

theorem exec_carrierFall_of_high (hhigh : s.pins.cdIn = true) : exec .carrierFall s =
    if s.station.onFace = true then
      .next { s with
        pins := { s.pins with cdIn := false },
        channel := { s.channel with carrierWatch := none, carrierStuck := false } }.reportChannel.settle
    else .next { s with pins := { s.pins with cdIn := false } } := if_pos hhigh

theorem State.reportChannel_of_stuck (channel : ChannelAccess) (h : channel.carrierStuck = true) :
    { s with channel := channel }.reportChannel = { s with channel := channel, panel := s.panel.report .channel true } := by
  simp [State.reportChannel, State.report, ChannelAccess.condition, h]

end

/-- Settles O40. -/
theorem carrierIsWatched : Obligations.CarrierIsWatched := by
  refine ⟨fun s => ⟨fun hlow hface hfree => ?_, fun hlow hoff => ?_, fun hhigh hface => ?_, fun hhigh hoff => ?_⟩,
    fun tm s hface htimer hrun => ?_⟩
  · rw [exec_carrierRise_of_low hlow, if_pos (by rw [hface, hfree]; rfl)]
    rfl
  · rw [exec_carrierRise_of_low hlow, if_neg (by rcases hoff with h | h <;> simp [h])]
  · refine ⟨_, (exec_carrierFall_of_high hhigh).trans (if_pos hface), ?_⟩
    exact State.settle_settledFrom _
  · exact (exec_carrierFall_of_high hhigh).trans (if_neg (ne_true_of_eq_false hoff))
  · have hdue : s.carrierWatchDue = true := by
      rw [State.carrierWatchDue, hface, timerDue_of_run htimer hrun]
      rfl
    refine ⟨_, if_pos hdue, ?_⟩
    rw [State.reportChannel_of_stuck _ rfl]
    exact State.settle_settledFrom _

end Sys2Proof.Machine
end


section
/-! The configuration image: its fields, its groups and the values in use (chapters 10.3 and 11.2, R175, R176, R183). -/

namespace Sys2Proof.Machine

section
variable {m : Image}

/-! ## Fields -/

theorem imageField_lt (m : Image) (first width : Nat) : imageField m first width < 2 ^ width := BitVec.isLt _

theorem readClock_isSome_iff {n : Nat} (hn : n < 4) : (readClock n).isSome = true ↔ n ≠ 3 := by
  interval_cases n <;> decide

theorem readPolicy_eq_latest_iff (n : Nat) : readPolicy n = .latest ↔ n = 0 := by
  cases n <;> simp [readPolicy]

/-! ## A value or its default (R175) -/

theorem passedOr_eq_ite {α : Type} {passes : Bool} {p : Prop} {_ : Decidable p} (h : passes = true ↔ p) (value default : α) :
    passedOr passes value default = if p then value else default :=
  if_congr h rfl rfl

/-- What holds of a value that passes and of the default holds of the value in use. -/
theorem passedOr_of {α : Type} (P : α → Prop) {passes : Bool} {value default : α} (hvalue : passes = true → P value)
    (hdefault : P default) : P (passedOr passes value default) := by
  cases passes with
  | false => exact hdefault
  | true => exact hvalue rfl

/-! ## Groups -/

theorem inRange_iff {low high v : Nat} : inRange low high v = true ↔ low ≤ v ∧ v ≤ high := decide_eq_true_iff

theorem inRange_zero_iff {high v : Nat} : inRange 0 high v = true ↔ v ≤ high := by
  rw [inRange_iff, and_iff_right (Nat.zero_le v)]

theorem Limits.passes_iff {scale pair : Limits} :
    scale.passes pair = true ↔ scale.low ≤ pair.low ∧ pair.low ≤ pair.high ∧ pair.high ≤ scale.high := by
  simp only [Limits.passes, Bool.and_eq_true, decide_eq_true_eq, Limits.admits_iff]
  omega

theorem cyclePasses_iff : cyclePasses m = true ↔
    (-400 ≤ imageSigned m 161 11 ∧ imageSigned m 161 11 ≤ 600) ∧ (-600 ≤ imageSigned m 172 11 ∧ imageSigned m 172 11 ≤ 600) ∧
      (-600 ≤ imageSigned m 183 11 ∧ imageSigned m 183 11 ≤ 600) ∧
      (-400 ≤ imageSigned m 194 11 ∧ imageSigned m 194 11 ≤ 600) ∧
      imageSigned m 183 11 < imageSigned m 172 11 ∧ imageSigned m 161 11 + 20 ≤ imageSigned m 194 11 := by
  simp only [cyclePasses, boomScale, tiltScale, Bool.and_eq_true, decide_eq_true_eq, Limits.admits_iff, and_assoc]

theorem Material.passes_iff {e : Material} : e.passes = true ↔
    (∀ b ∈ e.name, 0x20 ≤ b.toNat ∧ b.toNat ≤ 0x7E) ∧ 1 ≤ e.density ∧ e.density ≤ 1000 := by
  simp only [Material.passes, Bool.and_eq_true, List.all_eq_true, inRange_iff]

theorem materialsPass_iff : materialsPass m = true ↔ (1 ≤ imageField m 341 3 ∧ imageField m 341 3 ≤ 4) ∧
    ∀ e ∈ readMaterials m, (∀ b ∈ e.name, 0x20 ≤ b.toNat ∧ b.toNat ≤ 0x7E) ∧ 1 ≤ e.density ∧ e.density ≤ 1000 := by
  simp only [materialsPass, Bool.and_eq_true, List.all_eq_true, inRange_iff, Material.passes_iff]

theorem takesDefaults_iff : takesDefaults m = true ↔ ¬ ∀ passes ∈ nonCriticalGroups m, passes = true := by
  simp [takesDefaults]

/-! ## The materials in use (R183) -/

theorem readMaterials_length (m : Image) : (readMaterials m).length = imageField m 341 3 := by simp [readMaterials]

theorem readMaterials_name_length {e : Material} (he : e ∈ readMaterials m) : e.name.length = 4 := by
  obtain ⟨i, -, rfl⟩ := List.mem_map.mp he
  rfl

theorem valuesInUse_materials_length (m : Image) :
    1 ≤ (valuesInUse m).materials.length ∧ (valuesInUse m).materials.length ≤ 4 := by
  refine passedOr_of (fun es : List Material => 1 ≤ es.length ∧ es.length ≤ 4) (fun hpasses => ?_) (by decide)
  rw [readMaterials_length]
  exact (materialsPass_iff.mp hpasses).1

theorem valuesInUse_materials_sound (m : Image) : ∀ e ∈ (valuesInUse m).materials, e.name.length = 4 ∧
    (∀ b ∈ e.name, 0x20 ≤ b.toNat ∧ b.toNat ≤ 0x7E) ∧ 1 ≤ e.density ∧ e.density ≤ 1000 :=
  passedOr_of (fun es : List Material => ∀ e ∈ es, e.name.length = 4 ∧
    (∀ b ∈ e.name, 0x20 ≤ b.toNat ∧ b.toNat ≤ 0x7E) ∧ 1 ≤ e.density ∧ e.density ≤ 1000)
    (fun hpasses e he => ⟨readMaterials_name_length he, (materialsPass_iff.mp hpasses).2 e he⟩) (by decide)

/-! ## The ranges of the values in use -/

theorem Limits.inUse_within {scale pair : Limits} (hscale : scale.low ≤ scale.high) :
    scale.low ≤ (passedOr (scale.passes pair) pair scale).low ∧
      (passedOr (scale.passes pair) pair scale).low ≤ (passedOr (scale.passes pair) pair scale).high ∧
      (passedOr (scale.passes pair) pair scale).high ≤ scale.high :=
  passedOr_of (fun p : Limits => scale.low ≤ p.low ∧ p.low ≤ p.high ∧ p.high ≤ scale.high) Limits.passes_iff.mp
    ⟨le_rfl, hscale, le_rfl⟩

theorem passedOr_inRange_within {low high v default : Nat} (h : low ≤ default ∧ default ≤ high) :
    low ≤ passedOr (inRange low high v) v default ∧ passedOr (inRange low high v) v default ≤ high :=
  passedOr_of (fun v => low ≤ v ∧ v ≤ high) inRange_iff.mp h

theorem passedOr_scaled {low high v default unit : Nat} (h : low ≤ default ∧ default ≤ high) :
    ∃ k, low ≤ k ∧ k ≤ high ∧ passedOr (inRange low high v) (unit * v) (unit * default) = unit * k :=
  passedOr_of (fun w => ∃ k, low ≤ k ∧ k ≤ high ∧ w = unit * k)
    (fun hpasses => ⟨v, (inRange_iff.mp hpasses).1, (inRange_iff.mp hpasses).2, rfl⟩) ⟨default, h.1, h.2, rfl⟩

theorem valuesInUse_cycle_within (m : Image) :
    (-400 ≤ (valuesInUse m).digHeight ∧ (valuesInUse m).digHeight ≤ 600) ∧
      (-600 ≤ (valuesInUse m).carryTilt ∧ (valuesInUse m).carryTilt ≤ 600) ∧
      (-600 ≤ (valuesInUse m).dumpTilt ∧ (valuesInUse m).dumpTilt ≤ 600) ∧
      (-400 ≤ (valuesInUse m).dumpHeight ∧ (valuesInUse m).dumpHeight ≤ 600) ∧
      (valuesInUse m).dumpTilt < (valuesInUse m).carryTilt ∧ (valuesInUse m).digHeight + 20 ≤ (valuesInUse m).dumpHeight := by
  simp only [valuesInUse]
  by_cases hcycle : cyclePasses m = true
  · simpa only [hcycle, passedOr, if_true] using cyclePasses_iff.mp hcycle
  · simp [hcycle, passedOr]

end

/-- Settles O8: each value is the field or the default by the group it stands in, and both lie in the range. -/
theorem valuesInUseInRange : Obligations.ValuesInUseInRange := by
  intro m c f g pair cycle name counted printable materials
  have hcycle : cyclePasses m = true ↔ cycle := cyclePasses_iff
  have hmaterials : materialsPass m = true ↔ materials := materialsPass_iff
  have hclock : c.clock = (readClock (f 6 2)).getD .mhz3 := rfl
  obtain ⟨hdig, hcarry, htip, hheight, htips, hheights⟩ := valuesInUse_cycle_within m
  refine ⟨⟨rfl, rfl, beq_iff_eq, beq_iff_eq, rfl, readPolicy_eq_latest_iff _, rfl, rfl, rfl, rfl, rfl, rfl, rfl⟩,
    ⟨?clock, passedOr_eq_ite inRange_iff _ _, passedOr_eq_ite inRange_iff _ _, passedOr_eq_ite inRange_zero_iff _ _,
      passedOr_eq_ite inRange_iff _ _, passedOr_eq_ite inRange_iff _ _, passedOr_eq_ite Limits.passes_iff _ _,
      passedOr_eq_ite Limits.passes_iff _ _, passedOr_eq_ite Limits.passes_iff _ _,
      passedOr_eq_ite Limits.passes_iff _ _, passedOr_eq_ite Limits.passes_iff _ _, fun hpasses => ?cyclePasses,
      fun hfails => ?cycleFails, passedOr_eq_ite inRange_zero_iff _ _, passedOr_eq_ite inRange_iff _ _,
      fun hpasses => if_pos (hmaterials.mpr hpasses), fun hfails => if_neg (mt hmaterials.mp hfails)⟩,
    ?condition, passedOr_scaled (unit := 5) (default := 4) (by decide), passedOr_scaled (unit := 250) (default := 4) (by decide),
    ?captureDelay, (passedOr_inRange_within (by decide)).1, (passedOr_inRange_within (by decide)).2,
    (passedOr_inRange_within (by decide)).1, (passedOr_inRange_within (by decide)).2,
    Nat.le_of_lt_succ (imageField_lt m 20 2), (passedOr_inRange_within (by decide)).2,
    (passedOr_inRange_within (by decide)).1, (passedOr_inRange_within (by decide)).2,
    Nat.le_of_lt_succ (imageField_lt m 325 16), Limits.inUse_within (by decide), Limits.inUse_within (by decide),
    Limits.inUse_within (by decide), Limits.inUse_within (by decide), Limits.inUse_within (by decide),
    hdig, hcarry, htip, hheight, htips, hheights, valuesInUse_materials_length m, valuesInUse_materials_sound m⟩
  case clock =>
    rw [hclock]
    generalize f 6 2 = n
    match n with
    | 0 | 1 | 2 => rfl
    | n + 3 => rfl
  case cyclePasses =>
    have hpassed := hcycle.mpr hpasses
    exact ⟨if_pos hpassed, if_pos hpassed, if_pos hpassed, if_pos hpassed⟩
  case cycleFails =>
    have hfailed := mt hcycle.mp hfails
    exact ⟨if_neg hfailed, if_neg hfailed, if_neg hfailed, if_neg hfailed⟩
  case condition =>
    rw [takesDefaults_iff, not_iff_not]
    simp only [nonCriticalGroups, List.forall_mem_cons]
    exact and_congr (readClock_isSome_iff (imageField_lt m 6 2)) <| and_congr inRange_iff <| and_congr inRange_iff <|
      and_congr inRange_zero_iff <| and_congr inRange_iff <| and_congr inRange_iff <| and_congr Limits.passes_iff <|
      and_congr Limits.passes_iff <| and_congr Limits.passes_iff <| and_congr Limits.passes_iff <|
      and_congr Limits.passes_iff <| and_congr hcycle <| and_congr inRange_zero_iff <| and_congr inRange_iff <|
      and_congr hmaterials <| (and_iff_left (List.forall_mem_nil _)).trans beq_iff_eq
  case captureDelay =>
    obtain ⟨k, -, hk, hdelay⟩ := passedOr_scaled (low := 0) (high := 50) (v := f 24 6) (default := 10) (unit := 10) (by decide)
    exact ⟨k, hk, hdelay⟩

end Sys2Proof.Machine
end


section
/-! The taking of the configuration image: its check, its critical groups, and the values handed over (R174 to R178). -/

namespace Sys2Proof.Machine

/-! ## The check and the critical groups (R174, R176) -/

section
variable {m : Image}

theorem imageBody_eq (m : Image) : imageBody m = (List.range 62).map fun i => m.extractLsb' (8 * (63 - i)) 8 := by
  refine List.map_congr_left fun i hi => ?_
  rw [imageByte, show 504 - 8 * i = 8 * (63 - i) by omega]

theorem imageByte_62_append_63 (m : Image) : imageByte m 62 ++ imageByte m 63 = m.extractLsb' 0 16 :=
  BitVec.extractLsb'_append_extractLsb'_eq_extractLsb' rfl

theorem imageCheckAgrees_iff : imageCheckAgrees m = true ↔ crc16 (imageBody m) = m.extractLsb' 0 16 := by
  rw [← imageByte_62_append_63]
  exact beq_iff_eq

theorem windowPasses_valuesInUse_iff : (valuesInUse m).windowPasses = true ↔
    imageSigned m 205 11 % 10 = 0 ∧ imageField m 216 10 % 10 = 0 ∧ 50 ≤ imageField m 216 10 ∧
      (valuesInUse m).boom.low < imageSigned m 205 11 ∧
      imageSigned m 205 11 + imageField m 216 10 ≤ (valuesInUse m).boom.high := by
  have hstart : (valuesInUse m).windowStart = imageSigned m 205 11 := rfl
  have hwidth : (valuesInUse m).windowWidth = (imageField m 216 10 : Int) := rfl
  simp only [Settings.windowPasses, Bool.and_eq_true, decide_eq_true_eq, and_assoc, hstart, hwidth]
  exact and_congr_right' (and_congr (by omega) (and_congr_left' (by omega)))

theorem criticalPasses_iff : criticalPasses m = true ↔
    (1 ≤ (valuesInUse m).station ∧ (valuesInUse m).station ≤ 60) ∧
      (1 ≤ (valuesInUse m).headArea ∧ (valuesInUse m).headArea ≤ 4000) ∧
      (valuesInUse m).zeroForce < (valuesInUse m).spanForce ∧ 1 ≤ (valuesInUse m).spanMass ∧
      (valuesInUse m).windowPasses = true := by
  simp [criticalPasses, criticalGroups, isStation, inRange_iff]

end

/-! ## One text handed to an idle panel (R156, R158) -/

section
variable {s t : State}

theorem State.handedCells_single {i : Nat} {a : FieldCell} (ha : s.panel.fields[i]? = some a)
    (hchange : fieldText s i ≠ a.text) :
    s.handedCells [i].contains = s.panel.fields.take i ++ ⟨fieldText s i, true⟩ :: s.panel.fields.drop (i + 1) := by
  obtain ⟨hi, hget⟩ := List.getElem?_eq_some_iff.mp ha
  have hset : s.panel.fields.take i ++ ⟨fieldText s i, true⟩ :: s.panel.fields.drop (i + 1) =
      s.panel.fields.set i ⟨fieldText s i, true⟩ := by rw [List.set_eq_take_append_cons_drop, if_pos hi]
  rw [hset]
  refine List.ext_getElem? fun j => ?_
  rw [State.handedCells, List.getElem?_mapIdx, List.getElem?_set]
  by_cases hij : i = j
  · subst hij
    rw [ha, Option.map_some, if_pos ⟨by simp, hchange⟩, if_pos rfl, if_pos hi]
  · simp [hij, Ne.symm hij]

theorem State.hand_single_transfer {i : Nat} {a : FieldCell} (hrun : s.station ≠ .reset) (htransfer : s.panel.transfer = none)
    (hpause : s.panel.retryPause = none) (hnone : ∀ c ∈ s.panel.fields, c.pending = false)
    (ha : s.panel.fields[i]? = some a) (hchange : fieldText s i ≠ a.text) :
    (s.hand [i]).panel.transfer = some ⟨i, fieldText s i, ⟨s.partTime, 50⟩⟩ := by
  have hlength : (s.panel.fields.take i).length = i :=
    List.length_take_of_le (List.getElem?_eq_some_iff.mp ha).1.le
  have hfirst := CabPanel.startTransfer_of_first
    (p := { s.panel with fields := s.handedCells [i].contains }) (now := s.partTime) htransfer hpause
    (State.handedCells_single ha hchange) rfl fun d hd => hnone d (List.mem_of_mem_take hd)
  rw [State.hand, State.handWhere_eq, State.startTransfer_of_running (by exact hrun)]
  exact (congrArg CabPanel.transfer hfirst).trans (by rw [hlength])

/-! ## The values handed over (R177, R175) -/

/-- The values in use at their blocks. -/
def State.withSettings (s : State) (m : Image) : State :=
  { s with settings := valuesInUse m, weigh := { s.weigh with zeroForce := (valuesInUse m).zeroForce } }

theorem State.handSettings_of_defaults {m : Image} (h : takesDefaults m = true) :
    s.handSettings m = (((s.withSettings m).hand [14]).report .config true).hand [1] := if_pos h

theorem State.handSettings_of_none {m : Image} (h : takesDefaults m = false) :
    s.handSettings m = (s.withSettings m).hand [14] := if_neg (ne_true_of_eq_false h)

theorem SettledFrom.report (h : SettledFrom s t) (k : StateAlert) (holds : Bool) :
    SettledFrom (s.report k holds) (t.report k holds) := by
  obtain ⟨fields, transfer, holdOff, rfl⟩ := h
  exact ⟨fields, transfer, holdOff, rfl⟩

theorem SettledFrom.enterSelfTest (h : SettledFrom s t) : SettledFrom s.enterSelfTest t.enterSelfTest := by
  obtain ⟨fields, transfer, holdOff, rfl⟩ := h
  exact ⟨fields, transfer, holdOff, rfl⟩

theorem State.handSettings_settledFrom (s : State) (m : Image) :
    SettledFrom { s.withSettings m with panel := { s.panel with
      alerts := if takesDefaults m = true then { s.panel.alerts with config := s.panel.alerts.config.report true }
        else s.panel.alerts } } (s.handSettings m) := by
  have handed : SettledFrom (s.withSettings m) ((s.withSettings m).hand [14]) := State.handWhere_settledFrom _ _
  cases hdefaults : takesDefaults m with
  | true =>
    rw [State.handSettings_of_defaults hdefaults]
    exact (handed.report .config true).trans (State.handWhere_settledFrom _ _)
  | false =>
    rw [State.handSettings_of_none hdefaults]
    exact handed

theorem State.handSettings_transfer {m : Image} {x : Transfer} (h : ((s.withSettings m).hand [14]).panel.transfer = some x) :
    (s.handSettings m).panel.transfer = some x := by
  cases hdefaults : takesDefaults m with
  | true =>
    rw [State.handSettings_of_defaults hdefaults]
    exact ((State.report_follows _ _ _).trans (State.handWhere_follows _ _)).panel.transfer x h
  | false => rwa [State.handSettings_of_none hdefaults]

/-! ## The image taken (R173, R174) -/

/-- The read ended with its image. -/
def State.withImage (s : State) (m : Image) : State :=
  { s with startup := { s.startup with image := some m, read := .stopped, readTimer := none } }

theorem exec_configReadComplete_of_reading {m : Image} (hread : s.station = .configRead) (hreading : s.startup.read = .reading) :
    exec (.configReadComplete m) s = .next ((s.withImage m).validate m).settle := if_pos ⟨hread, hreading⟩

theorem State.validate_of_failing {m : Image} (h : imageCheckAgrees m = false ∨ criticalPasses m = false) :
    s.validate m =
      (s.withResult (if imageCheckAgrees m = true then .criticalFailed else .checkFailed)).enterHalted .config := by
  unfold State.validate
  cases hcheck : imageCheckAgrees m with
  | false => rfl
  | true =>
    have hcritical : criticalPasses m = false := h.resolve_left (by simp [hcheck])
    rw [hcritical]
    rfl

theorem State.validate_of_passing {m : Image} (hcheck : imageCheckAgrees m = true) (hcritical : criticalPasses m = true) :
    s.validate m = ((s.withResult (.valid (takesDefaults m))).handSettings m).enterSelfTest := by
  rw [State.validate, hcheck, hcritical]
  rfl

theorem fieldText_material {e : Material} (hrun : s.station ≠ .halted)
    (he : s.settings.materials[s.panel.material]? = some e) : fieldText s 14 = padText e.name := by
  rw [fieldText_of_running hrun]
  show padText (materialText s) = _
  rw [materialText, he]
  rfl

end

/-- Settles O7: an image that fails halts the part; one that passes hands its values, and the material field is the first
text handed, so its transfer is the one that starts. -/
theorem imageIsCheckedAndTaken : Obligations.ImageIsCheckedAndTaken := by
  refine ⟨fun m => ⟨?_, ?_⟩, fun m s hread hreading hfails => ?_, fun m s hread hreading hcheck hcritical => ?_⟩
  · rw [imageCheckAgrees_iff, imageBody_eq]
  · rw [criticalPasses_iff, windowPasses_valuesInUse_iff]
    exact Iff.rfl
  · refine ⟨_, exec_configReadComplete_of_reading hread hreading, ?_⟩
    rw [State.validate_of_failing hfails]
    exact State.settle_settledFrom _
  · refine ⟨_, exec_configReadComplete_of_reading hread hreading, ?_, ?_⟩
    · rw [State.validate_of_passing hcheck hcritical]
      exact (State.handSettings_settledFrom _ m).enterSelfTest.trans (State.settle_settledFrom _)
    · intro old new htransfer hpause hnone hold hnew hchange
      obtain ⟨e, he, rfl⟩ := Option.map_eq_some_iff.mp hnew
      have htext : fieldText (((s.withImage m).withResult (.valid (takesDefaults m))).withSettings m) 14 = padText e.name :=
        fieldText_material (by show s.station ≠ .halted; rw [hread]; decide) he
      have hstarted := State.hand_single_transfer
        (s := ((s.withImage m).withResult (.valid (takesDefaults m))).withSettings m)
        (by show s.station ≠ .reset; rw [hread]; decide) htransfer hpause hnone hold (by rw [htext]; exact hchange.symm)
      rw [htext] at hstarted
      rw [State.validate_of_passing hcheck hcritical]
      refine (State.settle_panelFollows _).transfer _ ?_
      rw [State.enterSelfTest_panel]
      exact State.handSettings_transfer hstarted

end Sys2Proof.Machine
end
